-- ==== Sys2Proof/Word.lean ====
section
/-! DEFINITION. The word types of the block: widths of `00_scope` R6 (`AW`, `DW`, `SAMPLE_W`) and
`30_encoding` R80, and the index of a timer unit. -/

namespace Sys2Proof

/-- One stored sample, `SAMPLE_W = 8` bits (`00_scope` R6). -/
abbrev Byte := BitVec 8

/-- One register, `DW = 32` bits (`00_scope` R6). -/
abbrev Word := BitVec 32

/-- One byte address of the register space, `AW = 16` bits (`00_scope` R6, `20_memory` R60). -/
abbrev Addr := BitVec 16

/-- One operation word `OPW[49:0]` (`30_encoding` R80). -/
abbrev OpWord := BitVec 50

/-- The four timer units; unit k has role k and never any other (`41_timer_units` R120). -/
inductive UnitId where
  /-- Unit 1, the delay unit. -/
  | u1
  /-- Unit 2, the clock-generation unit. -/
  | u2
  /-- Unit 3, the sample-period unit. -/
  | u3
  /-- Unit 4, the backlight-PWM unit. -/
  | u4
deriving DecidableEq, Repr

end Sys2Proof
end

