-- ==== Sys2Proof/Syntax.lean ====
section
/-! DEFINITION. The operations of the block: one constructor for each row of `opcode_table.json`
(`30_encoding` R90). An operation is a register read, a register write or an event (`00_scope` R7).
Bits the spec calls ignored in `RD` and `EVT` words are no operand; log 7. -/

namespace Sys2Proof

/-- One operation of the block (`30_encoding` R80 to R83, R90). -/
inductive Instr where
  /-- `RD.TICK_CNT`: read of `TICK_CNT` (R101). -/
  | rdTickCnt
  /-- `RD.SLOW_POLL`: read of `SLOW_POLL` (R103). -/
  | rdSlowPoll
  /-- `RD.PIPE_CTRL`: read of `PIPE_CTRL` (R170). -/
  | rdPipeCtrl
  /-- `RD.PIPE_CMD`: read of `PIPE_CMD` (R174). -/
  | rdPipeCmd
  /-- `RD.PIPE_STAT`: read of `PIPE_STAT` (R175). -/
  | rdPipeStat
  /-- `RD.PEAK`: read of `PEAK` (R176). -/
  | rdPeak
  /-- `RD.OVERRUN`: read of `OVERRUN` (R177). -/
  | rdOverrun
  /-- `RD.MISSED`: read of `MISSED` (R197). -/
  | rdMissed
  /-- `RD.PB_DIV`: read of `PB_DIV` (R195). -/
  | rdPbDiv
  /-- `RD.U1_CTRL`: read of `U1_CTRL` (R138). -/
  | rdU1Ctrl
  /-- `RD.U1_PRESCALE`: read of `U1_PRESCALE` (R140). -/
  | rdU1Prescale
  /-- `RD.U1_MATCH0`: read of `U1_MATCH0` (R142). -/
  | rdU1Match0
  /-- `RD.U1_MATCH1`: read of `U1_MATCH1` (R143). -/
  | rdU1Match1
  /-- `RD.U1_COUNT`: read of `U1_COUNT` (R144). -/
  | rdU1Count
  /-- `RD.U1_ROLE`: read of `U1_ROLE` (R145). -/
  | rdU1Role
  /-- `RD.U2_CTRL`: read of `U2_CTRL` (R138). -/
  | rdU2Ctrl
  /-- `RD.U2_PRESCALE`: read of `U2_PRESCALE` (R140). -/
  | rdU2Prescale
  /-- `RD.U2_MATCH0`: read of `U2_MATCH0` (R142). -/
  | rdU2Match0
  /-- `RD.U2_MATCH1`: read of `U2_MATCH1` (R143). -/
  | rdU2Match1
  /-- `RD.U2_COUNT`: read of `U2_COUNT` (R144). -/
  | rdU2Count
  /-- `RD.U2_ROLE`: read of `U2_ROLE` (R145). -/
  | rdU2Role
  /-- `RD.U3_CTRL`: read of `U3_CTRL` (R138). -/
  | rdU3Ctrl
  /-- `RD.U3_PRESCALE`: read of `U3_PRESCALE` (R140). -/
  | rdU3Prescale
  /-- `RD.U3_MATCH0`: read of `U3_MATCH0` (R142). -/
  | rdU3Match0
  /-- `RD.U3_MATCH1`: read of `U3_MATCH1` (R143). -/
  | rdU3Match1
  /-- `RD.U3_COUNT`: read of `U3_COUNT` (R144). -/
  | rdU3Count
  /-- `RD.U3_ROLE`: read of `U3_ROLE` (R145). -/
  | rdU3Role
  /-- `RD.U4_CTRL`: read of `U4_CTRL` (R138). -/
  | rdU4Ctrl
  /-- `RD.U4_PRESCALE`: read of `U4_PRESCALE` (R140). -/
  | rdU4Prescale
  /-- `RD.U4_MATCH0`: read of `U4_MATCH0` (R142). -/
  | rdU4Match0
  /-- `RD.U4_MATCH1`: read of `U4_MATCH1` (R143). -/
  | rdU4Match1
  /-- `RD.U4_COUNT`: read of `U4_COUNT` (R144). -/
  | rdU4Count
  /-- `RD.U4_ROLE`: read of `U4_ROLE` (R145). -/
  | rdU4Role
  /-- `RD.BUF`: read four samples at the window address `addr` (R180). -/
  | rdBuf (addr : Addr)
  /-- `RD.RESERVED`: read of a reserved address (R88). -/
  | rdReserved (addr : Addr)
  /-- `WR.TICK_CNT`: write of `TICK_CNT` (R102). -/
  | wrTickCnt (wdata : Word)
  /-- `WR.SLOW_POLL`: write of `SLOW_POLL` (R104). -/
  | wrSlowPoll (wdata : Word)
  /-- `WR.PIPE_CTRL`: write of `PIPE_CTRL` (R169). -/
  | wrPipeCtrl (wdata : Word)
  /-- `WR.PIPE_CMD`: write of `PIPE_CMD` (R171). -/
  | wrPipeCmd (wdata : Word)
  /-- `WR.U1_CTRL`: write of `U1_CTRL` (R130). -/
  | wrU1Ctrl (wdata : Word)
  /-- `WR.U1_PRESCALE`: write of `U1_PRESCALE` (R132). -/
  | wrU1Prescale (wdata : Word)
  /-- `WR.U1_MATCH0`: write of `U1_MATCH0` (R133). -/
  | wrU1Match0 (wdata : Word)
  /-- `WR.U1_MATCH1`: write of `U1_MATCH1` (R134). -/
  | wrU1Match1 (wdata : Word)
  /-- `WR.U1_ROLE`: write of `U1_ROLE` (R136). -/
  | wrU1Role (wdata : Word)
  /-- `WR.U2_CTRL`: write of `U2_CTRL` (R130). -/
  | wrU2Ctrl (wdata : Word)
  /-- `WR.U2_PRESCALE`: write of `U2_PRESCALE` (R132). -/
  | wrU2Prescale (wdata : Word)
  /-- `WR.U2_MATCH0`: write of `U2_MATCH0` (R133). -/
  | wrU2Match0 (wdata : Word)
  /-- `WR.U2_MATCH1`: write of `U2_MATCH1` (R134). -/
  | wrU2Match1 (wdata : Word)
  /-- `WR.U2_ROLE`: write of `U2_ROLE` (R136). -/
  | wrU2Role (wdata : Word)
  /-- `WR.U3_CTRL`: write of `U3_CTRL` (R131). -/
  | wrU3Ctrl (wdata : Word)
  /-- `WR.U3_PRESCALE`: write of `U3_PRESCALE` (R132). -/
  | wrU3Prescale (wdata : Word)
  /-- `WR.U3_MATCH0`: write of `U3_MATCH0` (R133). -/
  | wrU3Match0 (wdata : Word)
  /-- `WR.U3_MATCH1`: write of `U3_MATCH1` (R134). -/
  | wrU3Match1 (wdata : Word)
  /-- `WR.U3_ROLE`: write of `U3_ROLE` (R136). -/
  | wrU3Role (wdata : Word)
  /-- `WR.U4_CTRL`: write of `U4_CTRL` (R130). -/
  | wrU4Ctrl (wdata : Word)
  /-- `WR.U4_PRESCALE`: write of `U4_PRESCALE` (R132). -/
  | wrU4Prescale (wdata : Word)
  /-- `WR.U4_MATCH0`: write of `U4_MATCH0` (R133). -/
  | wrU4Match0 (wdata : Word)
  /-- `WR.U4_MATCH1`: write of `U4_MATCH1` (R134). -/
  | wrU4Match1 (wdata : Word)
  /-- `WR.U4_ROLE`: write of `U4_ROLE` (R136). -/
  | wrU4Role (wdata : Word)
  /-- `WR.BUF`: write to the read-only buffer window (R181). -/
  | wrBuf (addr : Addr) (wdata : Word)
  /-- `WR.RESERVED`: write to a reserved address or a read-only register (R88). -/
  | wrReserved (addr : Addr) (wdata : Word)
  /-- `EVT.RESET`: the reset event (R255). -/
  | evtReset
  /-- `EVT.CLK`: one period of the block clock (R121). -/
  | evtClk
  /-- `EVT.TICK`: the 10 ms system tick (R100). -/
  | evtTick
  /-- `EVT.ADC_DONE`: one completed ADC conversion; `raw` is the low `ADC_W` bits of `data` (R160). -/
  | evtAdcDone (data : Word)
  /-- `EVT.RESERVED`: a reserved event number (R87). -/
  | evtReserved (evt : BitVec 16)
  /-- `OP.RESERVED`: the reserved class `11` (R87); `data` is ignored (R80), `sel` is kept (log 7). -/
  | opReserved (sel : BitVec 16)
deriving DecidableEq, Repr

/-- The class of an operation, the field `cls` of its word (`30_encoding` R80). -/
inductive OpClass where
  /-- `00`, register read. -/
  | rd
  /-- `01`, register write. -/
  | wr
  /-- `10`, event. -/
  | evt
  /-- `11`, reserved. -/
  | reserved
deriving DecidableEq, Repr

/-- The column `format` of the opcode table (`30_encoding` R90). -/
def Instr.opClass : Instr → OpClass
  | .rdTickCnt => .rd
  | .rdSlowPoll => .rd
  | .rdPipeCtrl => .rd
  | .rdPipeCmd => .rd
  | .rdPipeStat => .rd
  | .rdPeak => .rd
  | .rdOverrun => .rd
  | .rdMissed => .rd
  | .rdPbDiv => .rd
  | .rdU1Ctrl => .rd
  | .rdU1Prescale => .rd
  | .rdU1Match0 => .rd
  | .rdU1Match1 => .rd
  | .rdU1Count => .rd
  | .rdU1Role => .rd
  | .rdU2Ctrl => .rd
  | .rdU2Prescale => .rd
  | .rdU2Match0 => .rd
  | .rdU2Match1 => .rd
  | .rdU2Count => .rd
  | .rdU2Role => .rd
  | .rdU3Ctrl => .rd
  | .rdU3Prescale => .rd
  | .rdU3Match0 => .rd
  | .rdU3Match1 => .rd
  | .rdU3Count => .rd
  | .rdU3Role => .rd
  | .rdU4Ctrl => .rd
  | .rdU4Prescale => .rd
  | .rdU4Match0 => .rd
  | .rdU4Match1 => .rd
  | .rdU4Count => .rd
  | .rdU4Role => .rd
  | .rdBuf _ => .rd
  | .rdReserved _ => .rd
  | .wrTickCnt _ => .wr
  | .wrSlowPoll _ => .wr
  | .wrPipeCtrl _ => .wr
  | .wrPipeCmd _ => .wr
  | .wrU1Ctrl _ => .wr
  | .wrU1Prescale _ => .wr
  | .wrU1Match0 _ => .wr
  | .wrU1Match1 _ => .wr
  | .wrU1Role _ => .wr
  | .wrU2Ctrl _ => .wr
  | .wrU2Prescale _ => .wr
  | .wrU2Match0 _ => .wr
  | .wrU2Match1 _ => .wr
  | .wrU2Role _ => .wr
  | .wrU3Ctrl _ => .wr
  | .wrU3Prescale _ => .wr
  | .wrU3Match0 _ => .wr
  | .wrU3Match1 _ => .wr
  | .wrU3Role _ => .wr
  | .wrU4Ctrl _ => .wr
  | .wrU4Prescale _ => .wr
  | .wrU4Match0 _ => .wr
  | .wrU4Match1 _ => .wr
  | .wrU4Role _ => .wr
  | .wrBuf _ _ => .wr
  | .wrReserved _ _ => .wr
  | .evtReset => .evt
  | .evtClk => .evt
  | .evtTick => .evt
  | .evtAdcDone _ => .evt
  | .evtReserved _ => .evt
  | .opReserved _ => .reserved

end Sys2Proof
end

