-- ==== Sys2Proof/WellFormed.lean ====
section
/-! DEFINITION. Which terms of `Instr` stand for an operation word: the operand checks that the rows of
`30_encoding` R90 make on the address or the event number. -/

namespace Sys2Proof

/-- Addresses of the `RD` rows that name a register (`30_encoding` R90, `10_state` R23). -/
def readableRegs : List Addr :=
  [0x0000#16, 0x0004#16, 0x0010#16, 0x0014#16, 0x0018#16, 0x001C#16, 0x0020#16, 0x0024#16,
    0x0028#16, 0x0040#16, 0x0044#16, 0x0048#16, 0x004C#16, 0x0050#16, 0x0054#16, 0x0060#16,
    0x0064#16, 0x0068#16, 0x006C#16, 0x0070#16, 0x0074#16, 0x0080#16, 0x0084#16, 0x0088#16,
    0x008C#16, 0x0090#16, 0x0094#16, 0x00A0#16, 0x00A4#16, 0x00A8#16, 0x00AC#16, 0x00B0#16,
    0x00B4#16]

/-- Addresses of the `WR` rows that name a register (`30_encoding` R90, `10_state` R23). -/
def writableRegs : List Addr :=
  [0x0000#16, 0x0004#16, 0x0010#16, 0x0014#16, 0x0040#16, 0x0044#16, 0x0048#16, 0x004C#16,
    0x0054#16, 0x0060#16, 0x0064#16, 0x0068#16, 0x006C#16, 0x0074#16, 0x0080#16, 0x0084#16,
    0x0088#16, 0x008C#16, 0x0094#16, 0x00A0#16, 0x00A4#16, 0x00A8#16, 0x00AC#16, 0x00B4#16]

/-- An address of the buffer window, `addr[15] = 1` (`20_memory` R60). -/
def inWindow (a : Addr) : Bool := a.getLsbD 15

/-- `addr[1:0] = 00` (`20_memory` R65). -/
def aligned (a : Addr) : Bool := a.extractLsb' 0 2 = 0#2

/-- The operand checks: an address or event number lies in the row it is written in, and in no row
tried before it (`30_encoding` R84, R90). -/
def Instr.wellFormed : Instr → Bool
  | .rdTickCnt => true
  | .rdSlowPoll => true
  | .rdPipeCtrl => true
  | .rdPipeCmd => true
  | .rdPipeStat => true
  | .rdPeak => true
  | .rdOverrun => true
  | .rdMissed => true
  | .rdPbDiv => true
  | .rdU1Ctrl => true
  | .rdU1Prescale => true
  | .rdU1Match0 => true
  | .rdU1Match1 => true
  | .rdU1Count => true
  | .rdU1Role => true
  | .rdU2Ctrl => true
  | .rdU2Prescale => true
  | .rdU2Match0 => true
  | .rdU2Match1 => true
  | .rdU2Count => true
  | .rdU2Role => true
  | .rdU3Ctrl => true
  | .rdU3Prescale => true
  | .rdU3Match0 => true
  | .rdU3Match1 => true
  | .rdU3Count => true
  | .rdU3Role => true
  | .rdU4Ctrl => true
  | .rdU4Prescale => true
  | .rdU4Match0 => true
  | .rdU4Match1 => true
  | .rdU4Count => true
  | .rdU4Role => true
  | .rdBuf addr => inWindow addr && aligned addr
  | .rdReserved addr => !readableRegs.contains addr && !(inWindow addr && aligned addr)
  | .wrTickCnt _ => true
  | .wrSlowPoll _ => true
  | .wrPipeCtrl _ => true
  | .wrPipeCmd _ => true
  | .wrU1Ctrl _ => true
  | .wrU1Prescale _ => true
  | .wrU1Match0 _ => true
  | .wrU1Match1 _ => true
  | .wrU1Role _ => true
  | .wrU2Ctrl _ => true
  | .wrU2Prescale _ => true
  | .wrU2Match0 _ => true
  | .wrU2Match1 _ => true
  | .wrU2Role _ => true
  | .wrU3Ctrl _ => true
  | .wrU3Prescale _ => true
  | .wrU3Match0 _ => true
  | .wrU3Match1 _ => true
  | .wrU3Role _ => true
  | .wrU4Ctrl _ => true
  | .wrU4Prescale _ => true
  | .wrU4Match0 _ => true
  | .wrU4Match1 _ => true
  | .wrU4Role _ => true
  | .wrBuf addr _ => inWindow addr
  | .wrReserved addr _ => !writableRegs.contains addr && !inWindow addr
  | .evtReset => true
  | .evtClk => true
  | .evtTick => true
  | .evtAdcDone _ => true
  | .evtReserved evt => decide (4 ≤ evt.toNat)
  | .opReserved _ => true

end Sys2Proof
end

