-- ==== Sys2Proof/Decode.lean ====
section
/-! DEFINITION. The decoder of operation words (`30_encoding` R80 to R90), total on every 50-bit word,
and after it the encoder; then the opcode table of R90 as data, and the host's entry. -/

namespace Sys2Proof

/-- `cls = OPW[49:48]` (`30_encoding` R80). -/
def OpWord.cls (w : OpWord) : BitVec 2 := w.extractLsb' 48 2

/-- `sel = OPW[47:32]` (`30_encoding` R80). -/
def OpWord.sel (w : OpWord) : BitVec 16 := w.extractLsb' 32 16

/-- `data = OPW[31:0]` (`30_encoding` R80). -/
def OpWord.data (w : OpWord) : Word := w.extractLsb' 0 32

/-- The word with the three fields of `30_encoding` R80. -/
def mkOpWord (cls : BitVec 2) (sel : BitVec 16) (data : Word) : OpWord := cls ++ (sel ++ data)

/-- Class `RD`: `sel` against the rows in table order (`30_encoding` R81, R84, R90). -/
def decodeRd (a : Addr) : Instr :=
  if a = 0x0000#16 then .rdTickCnt
  else if a = 0x0004#16 then .rdSlowPoll
  else if a = 0x0010#16 then .rdPipeCtrl
  else if a = 0x0014#16 then .rdPipeCmd
  else if a = 0x0018#16 then .rdPipeStat
  else if a = 0x001C#16 then .rdPeak
  else if a = 0x0020#16 then .rdOverrun
  else if a = 0x0024#16 then .rdMissed
  else if a = 0x0028#16 then .rdPbDiv
  else if a = 0x0040#16 then .rdU1Ctrl
  else if a = 0x0044#16 then .rdU1Prescale
  else if a = 0x0048#16 then .rdU1Match0
  else if a = 0x004C#16 then .rdU1Match1
  else if a = 0x0050#16 then .rdU1Count
  else if a = 0x0054#16 then .rdU1Role
  else if a = 0x0060#16 then .rdU2Ctrl
  else if a = 0x0064#16 then .rdU2Prescale
  else if a = 0x0068#16 then .rdU2Match0
  else if a = 0x006C#16 then .rdU2Match1
  else if a = 0x0070#16 then .rdU2Count
  else if a = 0x0074#16 then .rdU2Role
  else if a = 0x0080#16 then .rdU3Ctrl
  else if a = 0x0084#16 then .rdU3Prescale
  else if a = 0x0088#16 then .rdU3Match0
  else if a = 0x008C#16 then .rdU3Match1
  else if a = 0x0090#16 then .rdU3Count
  else if a = 0x0094#16 then .rdU3Role
  else if a = 0x00A0#16 then .rdU4Ctrl
  else if a = 0x00A4#16 then .rdU4Prescale
  else if a = 0x00A8#16 then .rdU4Match0
  else if a = 0x00AC#16 then .rdU4Match1
  else if a = 0x00B0#16 then .rdU4Count
  else if a = 0x00B4#16 then .rdU4Role
  else if inWindow a && aligned a then .rdBuf a
  else .rdReserved a

/-- Class `WR`: `sel` against the rows in table order (`30_encoding` R82, R84, R90). -/
def decodeWr (a : Addr) (wdata : Word) : Instr :=
  if a = 0x0000#16 then .wrTickCnt wdata
  else if a = 0x0004#16 then .wrSlowPoll wdata
  else if a = 0x0010#16 then .wrPipeCtrl wdata
  else if a = 0x0014#16 then .wrPipeCmd wdata
  else if a = 0x0040#16 then .wrU1Ctrl wdata
  else if a = 0x0044#16 then .wrU1Prescale wdata
  else if a = 0x0048#16 then .wrU1Match0 wdata
  else if a = 0x004C#16 then .wrU1Match1 wdata
  else if a = 0x0054#16 then .wrU1Role wdata
  else if a = 0x0060#16 then .wrU2Ctrl wdata
  else if a = 0x0064#16 then .wrU2Prescale wdata
  else if a = 0x0068#16 then .wrU2Match0 wdata
  else if a = 0x006C#16 then .wrU2Match1 wdata
  else if a = 0x0074#16 then .wrU2Role wdata
  else if a = 0x0080#16 then .wrU3Ctrl wdata
  else if a = 0x0084#16 then .wrU3Prescale wdata
  else if a = 0x0088#16 then .wrU3Match0 wdata
  else if a = 0x008C#16 then .wrU3Match1 wdata
  else if a = 0x0094#16 then .wrU3Role wdata
  else if a = 0x00A0#16 then .wrU4Ctrl wdata
  else if a = 0x00A4#16 then .wrU4Prescale wdata
  else if a = 0x00A8#16 then .wrU4Match0 wdata
  else if a = 0x00AC#16 then .wrU4Match1 wdata
  else if a = 0x00B4#16 then .wrU4Role wdata
  else if inWindow a then .wrBuf a wdata
  else .wrReserved a wdata

/-- Class `EVT`: the event numbers of `30_encoding` R86; the others are reserved (R87). -/
def decodeEvt (evt : BitVec 16) (data : Word) : Instr :=
  if evt = 0x0000#16 then .evtReset
  else if evt = 0x0001#16 then .evtClk
  else if evt = 0x0002#16 then .evtTick
  else if evt = 0x0003#16 then .evtAdcDone data
  else .evtReserved evt

/-- The operation a word stands for, `cls` first; every 50-bit word has exactly one, so nothing is
rejected (`30_encoding` R84). -/
def decode (w : OpWord) : Instr :=
  if w.cls = 0b00#2 then decodeRd w.sel
  else if w.cls = 0b01#2 then decodeWr w.sel w.data
  else if w.cls = 0b10#2 then decodeEvt w.sel w.data
  else .opReserved w.sel

/-- The word of an operation; the bits that R80 calls ignored are zero, as a well-formed word has
them (`30_encoding` R80 to R83, R90). -/
def encode : Instr → OpWord
  | .rdTickCnt => mkOpWord 0b00#2 0x0000#16 0#32
  | .rdSlowPoll => mkOpWord 0b00#2 0x0004#16 0#32
  | .rdPipeCtrl => mkOpWord 0b00#2 0x0010#16 0#32
  | .rdPipeCmd => mkOpWord 0b00#2 0x0014#16 0#32
  | .rdPipeStat => mkOpWord 0b00#2 0x0018#16 0#32
  | .rdPeak => mkOpWord 0b00#2 0x001C#16 0#32
  | .rdOverrun => mkOpWord 0b00#2 0x0020#16 0#32
  | .rdMissed => mkOpWord 0b00#2 0x0024#16 0#32
  | .rdPbDiv => mkOpWord 0b00#2 0x0028#16 0#32
  | .rdU1Ctrl => mkOpWord 0b00#2 0x0040#16 0#32
  | .rdU1Prescale => mkOpWord 0b00#2 0x0044#16 0#32
  | .rdU1Match0 => mkOpWord 0b00#2 0x0048#16 0#32
  | .rdU1Match1 => mkOpWord 0b00#2 0x004C#16 0#32
  | .rdU1Count => mkOpWord 0b00#2 0x0050#16 0#32
  | .rdU1Role => mkOpWord 0b00#2 0x0054#16 0#32
  | .rdU2Ctrl => mkOpWord 0b00#2 0x0060#16 0#32
  | .rdU2Prescale => mkOpWord 0b00#2 0x0064#16 0#32
  | .rdU2Match0 => mkOpWord 0b00#2 0x0068#16 0#32
  | .rdU2Match1 => mkOpWord 0b00#2 0x006C#16 0#32
  | .rdU2Count => mkOpWord 0b00#2 0x0070#16 0#32
  | .rdU2Role => mkOpWord 0b00#2 0x0074#16 0#32
  | .rdU3Ctrl => mkOpWord 0b00#2 0x0080#16 0#32
  | .rdU3Prescale => mkOpWord 0b00#2 0x0084#16 0#32
  | .rdU3Match0 => mkOpWord 0b00#2 0x0088#16 0#32
  | .rdU3Match1 => mkOpWord 0b00#2 0x008C#16 0#32
  | .rdU3Count => mkOpWord 0b00#2 0x0090#16 0#32
  | .rdU3Role => mkOpWord 0b00#2 0x0094#16 0#32
  | .rdU4Ctrl => mkOpWord 0b00#2 0x00A0#16 0#32
  | .rdU4Prescale => mkOpWord 0b00#2 0x00A4#16 0#32
  | .rdU4Match0 => mkOpWord 0b00#2 0x00A8#16 0#32
  | .rdU4Match1 => mkOpWord 0b00#2 0x00AC#16 0#32
  | .rdU4Count => mkOpWord 0b00#2 0x00B0#16 0#32
  | .rdU4Role => mkOpWord 0b00#2 0x00B4#16 0#32
  | .rdBuf addr => mkOpWord 0b00#2 addr 0#32
  | .rdReserved addr => mkOpWord 0b00#2 addr 0#32
  | .wrTickCnt wdata => mkOpWord 0b01#2 0x0000#16 wdata
  | .wrSlowPoll wdata => mkOpWord 0b01#2 0x0004#16 wdata
  | .wrPipeCtrl wdata => mkOpWord 0b01#2 0x0010#16 wdata
  | .wrPipeCmd wdata => mkOpWord 0b01#2 0x0014#16 wdata
  | .wrU1Ctrl wdata => mkOpWord 0b01#2 0x0040#16 wdata
  | .wrU1Prescale wdata => mkOpWord 0b01#2 0x0044#16 wdata
  | .wrU1Match0 wdata => mkOpWord 0b01#2 0x0048#16 wdata
  | .wrU1Match1 wdata => mkOpWord 0b01#2 0x004C#16 wdata
  | .wrU1Role wdata => mkOpWord 0b01#2 0x0054#16 wdata
  | .wrU2Ctrl wdata => mkOpWord 0b01#2 0x0060#16 wdata
  | .wrU2Prescale wdata => mkOpWord 0b01#2 0x0064#16 wdata
  | .wrU2Match0 wdata => mkOpWord 0b01#2 0x0068#16 wdata
  | .wrU2Match1 wdata => mkOpWord 0b01#2 0x006C#16 wdata
  | .wrU2Role wdata => mkOpWord 0b01#2 0x0074#16 wdata
  | .wrU3Ctrl wdata => mkOpWord 0b01#2 0x0080#16 wdata
  | .wrU3Prescale wdata => mkOpWord 0b01#2 0x0084#16 wdata
  | .wrU3Match0 wdata => mkOpWord 0b01#2 0x0088#16 wdata
  | .wrU3Match1 wdata => mkOpWord 0b01#2 0x008C#16 wdata
  | .wrU3Role wdata => mkOpWord 0b01#2 0x0094#16 wdata
  | .wrU4Ctrl wdata => mkOpWord 0b01#2 0x00A0#16 wdata
  | .wrU4Prescale wdata => mkOpWord 0b01#2 0x00A4#16 wdata
  | .wrU4Match0 wdata => mkOpWord 0b01#2 0x00A8#16 wdata
  | .wrU4Match1 wdata => mkOpWord 0b01#2 0x00AC#16 wdata
  | .wrU4Role wdata => mkOpWord 0b01#2 0x00B4#16 wdata
  | .wrBuf addr wdata => mkOpWord 0b01#2 addr wdata
  | .wrReserved addr wdata => mkOpWord 0b01#2 addr wdata
  | .evtReset => mkOpWord 0b10#2 0x0000#16 0#32
  | .evtClk => mkOpWord 0b10#2 0x0001#16 0#32
  | .evtTick => mkOpWord 0b10#2 0x0002#16 0#32
  | .evtAdcDone data => mkOpWord 0b10#2 0x0003#16 data
  | .evtReserved evt => mkOpWord 0b10#2 evt 0#32
  | .opReserved sel => mkOpWord 0b11#2 sel 0#32

/-- A well-formed word: `data` is zero wherever R80 calls it ignored, that is everywhere but in `WR` and
in the event `ADC_DONE`; so in `RD`, in the other events and in class `11` (`30_encoding` R80; log 7). -/
def OpWord.wellFormed (w : OpWord) : Bool :=
  if w.cls = 0b00#2 then w.data = 0#32
  else if w.cls = 0b01#2 then true
  else if w.cls = 0b10#2 then w.sel = 0x0003#16 || w.data = 0#32
  else w.data = 0#32

/-- The row of the opcode table an operation belongs to (`30_encoding` R90). -/
def Instr.mnemonic : Instr → String
  | .rdTickCnt => "RD.TICK_CNT"
  | .rdSlowPoll => "RD.SLOW_POLL"
  | .rdPipeCtrl => "RD.PIPE_CTRL"
  | .rdPipeCmd => "RD.PIPE_CMD"
  | .rdPipeStat => "RD.PIPE_STAT"
  | .rdPeak => "RD.PEAK"
  | .rdOverrun => "RD.OVERRUN"
  | .rdMissed => "RD.MISSED"
  | .rdPbDiv => "RD.PB_DIV"
  | .rdU1Ctrl => "RD.U1_CTRL"
  | .rdU1Prescale => "RD.U1_PRESCALE"
  | .rdU1Match0 => "RD.U1_MATCH0"
  | .rdU1Match1 => "RD.U1_MATCH1"
  | .rdU1Count => "RD.U1_COUNT"
  | .rdU1Role => "RD.U1_ROLE"
  | .rdU2Ctrl => "RD.U2_CTRL"
  | .rdU2Prescale => "RD.U2_PRESCALE"
  | .rdU2Match0 => "RD.U2_MATCH0"
  | .rdU2Match1 => "RD.U2_MATCH1"
  | .rdU2Count => "RD.U2_COUNT"
  | .rdU2Role => "RD.U2_ROLE"
  | .rdU3Ctrl => "RD.U3_CTRL"
  | .rdU3Prescale => "RD.U3_PRESCALE"
  | .rdU3Match0 => "RD.U3_MATCH0"
  | .rdU3Match1 => "RD.U3_MATCH1"
  | .rdU3Count => "RD.U3_COUNT"
  | .rdU3Role => "RD.U3_ROLE"
  | .rdU4Ctrl => "RD.U4_CTRL"
  | .rdU4Prescale => "RD.U4_PRESCALE"
  | .rdU4Match0 => "RD.U4_MATCH0"
  | .rdU4Match1 => "RD.U4_MATCH1"
  | .rdU4Count => "RD.U4_COUNT"
  | .rdU4Role => "RD.U4_ROLE"
  | .rdBuf _ => "RD.BUF"
  | .rdReserved _ => "RD.RESERVED"
  | .wrTickCnt _ => "WR.TICK_CNT"
  | .wrSlowPoll _ => "WR.SLOW_POLL"
  | .wrPipeCtrl _ => "WR.PIPE_CTRL"
  | .wrPipeCmd _ => "WR.PIPE_CMD"
  | .wrU1Ctrl _ => "WR.U1_CTRL"
  | .wrU1Prescale _ => "WR.U1_PRESCALE"
  | .wrU1Match0 _ => "WR.U1_MATCH0"
  | .wrU1Match1 _ => "WR.U1_MATCH1"
  | .wrU1Role _ => "WR.U1_ROLE"
  | .wrU2Ctrl _ => "WR.U2_CTRL"
  | .wrU2Prescale _ => "WR.U2_PRESCALE"
  | .wrU2Match0 _ => "WR.U2_MATCH0"
  | .wrU2Match1 _ => "WR.U2_MATCH1"
  | .wrU2Role _ => "WR.U2_ROLE"
  | .wrU3Ctrl _ => "WR.U3_CTRL"
  | .wrU3Prescale _ => "WR.U3_PRESCALE"
  | .wrU3Match0 _ => "WR.U3_MATCH0"
  | .wrU3Match1 _ => "WR.U3_MATCH1"
  | .wrU3Role _ => "WR.U3_ROLE"
  | .wrU4Ctrl _ => "WR.U4_CTRL"
  | .wrU4Prescale _ => "WR.U4_PRESCALE"
  | .wrU4Match0 _ => "WR.U4_MATCH0"
  | .wrU4Match1 _ => "WR.U4_MATCH1"
  | .wrU4Role _ => "WR.U4_ROLE"
  | .wrBuf _ _ => "WR.BUF"
  | .wrReserved _ _ => "WR.RESERVED"
  | .evtReset => "EVT.RESET"
  | .evtClk => "EVT.CLK"
  | .evtTick => "EVT.TICK"
  | .evtAdcDone _ => "EVT.ADC_DONE"
  | .evtReserved _ => "EVT.RESERVED"
  | .opReserved _ => "OP.RESERVED"

/-- One row of the opcode table: a word `w` selects it when `(w &&& mask) = pattern`
(`30_encoding` R84, R90). -/
structure OpRow where
  /-- The row's mnemonic. -/
  mnemonic : String
  /-- The column `match`. -/
  pattern : OpWord
  /-- The column `mask`. -/
  mask : OpWord
deriving DecidableEq, Repr

/-- Whether a word selects a row (`30_encoding` R90). -/
def OpRow.selects (r : OpRow) (w : OpWord) : Bool := w &&& r.mask = r.pattern

/-- The `RD` rows of `30_encoding` R90, in table order. -/
def opRowsRd : List OpRow :=
  [⟨"RD.TICK_CNT", 0x0000000000000#50, 0x3FFFF00000000#50⟩,
   ⟨"RD.SLOW_POLL", 0x0000400000000#50, 0x3FFFF00000000#50⟩,
   ⟨"RD.PIPE_CTRL", 0x0001000000000#50, 0x3FFFF00000000#50⟩,
   ⟨"RD.PIPE_CMD", 0x0001400000000#50, 0x3FFFF00000000#50⟩,
   ⟨"RD.PIPE_STAT", 0x0001800000000#50, 0x3FFFF00000000#50⟩,
   ⟨"RD.PEAK", 0x0001C00000000#50, 0x3FFFF00000000#50⟩,
   ⟨"RD.OVERRUN", 0x0002000000000#50, 0x3FFFF00000000#50⟩,
   ⟨"RD.MISSED", 0x0002400000000#50, 0x3FFFF00000000#50⟩,
   ⟨"RD.PB_DIV", 0x0002800000000#50, 0x3FFFF00000000#50⟩,
   ⟨"RD.U1_CTRL", 0x0004000000000#50, 0x3FFFF00000000#50⟩,
   ⟨"RD.U1_PRESCALE", 0x0004400000000#50, 0x3FFFF00000000#50⟩,
   ⟨"RD.U1_MATCH0", 0x0004800000000#50, 0x3FFFF00000000#50⟩,
   ⟨"RD.U1_MATCH1", 0x0004C00000000#50, 0x3FFFF00000000#50⟩,
   ⟨"RD.U1_COUNT", 0x0005000000000#50, 0x3FFFF00000000#50⟩,
   ⟨"RD.U1_ROLE", 0x0005400000000#50, 0x3FFFF00000000#50⟩,
   ⟨"RD.U2_CTRL", 0x0006000000000#50, 0x3FFFF00000000#50⟩,
   ⟨"RD.U2_PRESCALE", 0x0006400000000#50, 0x3FFFF00000000#50⟩,
   ⟨"RD.U2_MATCH0", 0x0006800000000#50, 0x3FFFF00000000#50⟩,
   ⟨"RD.U2_MATCH1", 0x0006C00000000#50, 0x3FFFF00000000#50⟩,
   ⟨"RD.U2_COUNT", 0x0007000000000#50, 0x3FFFF00000000#50⟩,
   ⟨"RD.U2_ROLE", 0x0007400000000#50, 0x3FFFF00000000#50⟩,
   ⟨"RD.U3_CTRL", 0x0008000000000#50, 0x3FFFF00000000#50⟩,
   ⟨"RD.U3_PRESCALE", 0x0008400000000#50, 0x3FFFF00000000#50⟩,
   ⟨"RD.U3_MATCH0", 0x0008800000000#50, 0x3FFFF00000000#50⟩,
   ⟨"RD.U3_MATCH1", 0x0008C00000000#50, 0x3FFFF00000000#50⟩,
   ⟨"RD.U3_COUNT", 0x0009000000000#50, 0x3FFFF00000000#50⟩,
   ⟨"RD.U3_ROLE", 0x0009400000000#50, 0x3FFFF00000000#50⟩,
   ⟨"RD.U4_CTRL", 0x000A000000000#50, 0x3FFFF00000000#50⟩,
   ⟨"RD.U4_PRESCALE", 0x000A400000000#50, 0x3FFFF00000000#50⟩,
   ⟨"RD.U4_MATCH0", 0x000A800000000#50, 0x3FFFF00000000#50⟩,
   ⟨"RD.U4_MATCH1", 0x000AC00000000#50, 0x3FFFF00000000#50⟩,
   ⟨"RD.U4_COUNT", 0x000B000000000#50, 0x3FFFF00000000#50⟩,
   ⟨"RD.U4_ROLE", 0x000B400000000#50, 0x3FFFF00000000#50⟩,
   ⟨"RD.BUF", 0x0800000000000#50, 0x3800300000000#50⟩,
   ⟨"RD.RESERVED", 0x0000000000000#50, 0x3000000000000#50⟩]

/-- The `WR` rows of `30_encoding` R90, in table order. -/
def opRowsWr : List OpRow :=
  [⟨"WR.TICK_CNT", 0x1000000000000#50, 0x3FFFF00000000#50⟩,
   ⟨"WR.SLOW_POLL", 0x1000400000000#50, 0x3FFFF00000000#50⟩,
   ⟨"WR.PIPE_CTRL", 0x1001000000000#50, 0x3FFFF00000000#50⟩,
   ⟨"WR.PIPE_CMD", 0x1001400000000#50, 0x3FFFF00000000#50⟩,
   ⟨"WR.U1_CTRL", 0x1004000000000#50, 0x3FFFF00000000#50⟩,
   ⟨"WR.U1_PRESCALE", 0x1004400000000#50, 0x3FFFF00000000#50⟩,
   ⟨"WR.U1_MATCH0", 0x1004800000000#50, 0x3FFFF00000000#50⟩,
   ⟨"WR.U1_MATCH1", 0x1004C00000000#50, 0x3FFFF00000000#50⟩,
   ⟨"WR.U1_ROLE", 0x1005400000000#50, 0x3FFFF00000000#50⟩,
   ⟨"WR.U2_CTRL", 0x1006000000000#50, 0x3FFFF00000000#50⟩,
   ⟨"WR.U2_PRESCALE", 0x1006400000000#50, 0x3FFFF00000000#50⟩,
   ⟨"WR.U2_MATCH0", 0x1006800000000#50, 0x3FFFF00000000#50⟩,
   ⟨"WR.U2_MATCH1", 0x1006C00000000#50, 0x3FFFF00000000#50⟩,
   ⟨"WR.U2_ROLE", 0x1007400000000#50, 0x3FFFF00000000#50⟩,
   ⟨"WR.U3_CTRL", 0x1008000000000#50, 0x3FFFF00000000#50⟩,
   ⟨"WR.U3_PRESCALE", 0x1008400000000#50, 0x3FFFF00000000#50⟩,
   ⟨"WR.U3_MATCH0", 0x1008800000000#50, 0x3FFFF00000000#50⟩,
   ⟨"WR.U3_MATCH1", 0x1008C00000000#50, 0x3FFFF00000000#50⟩,
   ⟨"WR.U3_ROLE", 0x1009400000000#50, 0x3FFFF00000000#50⟩,
   ⟨"WR.U4_CTRL", 0x100A000000000#50, 0x3FFFF00000000#50⟩,
   ⟨"WR.U4_PRESCALE", 0x100A400000000#50, 0x3FFFF00000000#50⟩,
   ⟨"WR.U4_MATCH0", 0x100A800000000#50, 0x3FFFF00000000#50⟩,
   ⟨"WR.U4_MATCH1", 0x100AC00000000#50, 0x3FFFF00000000#50⟩,
   ⟨"WR.U4_ROLE", 0x100B400000000#50, 0x3FFFF00000000#50⟩,
   ⟨"WR.BUF", 0x1800000000000#50, 0x3800000000000#50⟩,
   ⟨"WR.RESERVED", 0x1000000000000#50, 0x3000000000000#50⟩]

/-- The `EVT` rows and the reserved class of `30_encoding` R90, in table order. -/
def opRowsEvt : List OpRow :=
  [⟨"EVT.RESET", 0x2000000000000#50, 0x3FFFF00000000#50⟩,
   ⟨"EVT.CLK", 0x2000100000000#50, 0x3FFFF00000000#50⟩,
   ⟨"EVT.TICK", 0x2000200000000#50, 0x3FFFF00000000#50⟩,
   ⟨"EVT.ADC_DONE", 0x2000300000000#50, 0x3FFFF00000000#50⟩,
   ⟨"EVT.RESERVED", 0x2000000000000#50, 0x3000000000000#50⟩,
   ⟨"OP.RESERVED", 0x3000000000000#50, 0x3000000000000#50⟩]

/-- The complete operation table of `30_encoding` R90, in table order: the `RD` rows, the `WR` rows,
the `EVT` rows and the reserved class. -/
def opTable : List OpRow := opRowsRd ++ opRowsWr ++ opRowsEvt

/-- The first row a word selects (`30_encoding` R84: "rows tried in this order"). -/
def firstRow (w : OpWord) : Option OpRow := opTable.find? (·.selects w)

/-- The operation word in a numeral of the opcode table's numbering: its low 50 bits, of which only
the first `nbits` are given. A 50-bit word fills 7 whole bytes but for 6 bits, which the block does not
have and which are dropped; log 8. -/
def opWordOfTable (nbits w : Nat) : OpWord := BitVec.ofNat 50 (w % 2 ^ nbits)

/-- The host's entry: the instruction the decoder reads from the table word `w` of `nbits` bits. Never
`none`, because the decoder is total (`30_encoding` R84). -/
def decodeTableWord (nbits w : Nat) : Option Instr := some (decode (opWordOfTable nbits w))

end Sys2Proof
end

