-- ==== Sys2Proof/Config.lean ====
section
/-! DEFINITION. What an implementation fixes and the spec leaves open (`00_scope` R6, `93` U8), and
the free value of an unwritten buffer byte (`20_memory` R74, `93` U4). Every constant here is opaque
and has no body: a claim that mentions one holds whatever its value is. -/

namespace Sys2Proof

/-- The open parameters that a rule of the block reads (`00_scope` R6). A state carries one of these
(`State.cfg`), so that claims hold for every choice; log 4. -/
structure Params where
  /-- `N`, the number of audio buffers, `2 <= N <= 64`. -/
  bufCount : Nat
  /-- `ADC_W`, the width of the raw ADC word, `8 <= ADC_W <= 32`. -/
  adcW : Nat
  /-- `TICK_MAX`, the ceiling of the Tick Counter, `1 <= TICK_MAX <= 2^32-1`. -/
  tickMax : Word
  /-- `SP_PERIOD`, the reload value of the Slow-Poll Countdown, `1 <= SP_PERIOD <= 2^32-1`. -/
  spPeriod : Word
deriving DecidableEq, Repr

/-- The bounds of `00_scope` R6. -/
abbrev Params.wf (p : Params) : Prop :=
  (2 ≤ p.bufCount ∧ p.bufCount ≤ 64) ∧ (8 ≤ p.adcW ∧ p.adcW ≤ 32) ∧
    1 ≤ p.tickMax.toNat ∧ 1 ≤ p.spPeriod.toNat

/-- `N - 2` of this block, for an `N` that `00_scope` R6 leaves OPEN in 2 to 64. -/
opaque Config.bufCountAbove2 : Fin 63

/-- `ADC_W - 8` of this block, for an `ADC_W` that `00_scope` R6 leaves OPEN in 8 to 32. -/
opaque Config.adcWAbove8 : Fin 25

/-- `TICK_MAX - 1` of this block, for a `TICK_MAX` left OPEN in 1 to `2^32-1`. -/
opaque Config.tickMaxAbove1 : Fin 4294967295

/-- `SP_PERIOD - 1` of this block, for an `SP_PERIOD` left OPEN in 1 to `2^32-1`. -/
opaque Config.spPeriodAbove1 : Fin 4294967295

/-- The parameters of this block: any that `00_scope` R6 allows, none in particular; log 4. -/
def Config.params : Params where
  bufCount := Config.bufCountAbove2.val + 2
  adcW := Config.adcWAbove8.val + 8
  tickMax := BitVec.ofNat 32 (Config.tickMaxAbove1.val + 1)
  spPeriod := BitVec.ofNat 32 (Config.spPeriodAbove1.val + 1)

/-- The free value of a buffer byte that was never stored to since the last `RESET`: arguments are
the number of `RESET`s performed and the byte's address, so it is independent for each byte and
stable until the byte is written or becomes unwritten again (`20_memory` R74, `93` U4; log 5). -/
opaque Config.freeByte : Nat → Nat → Byte

/-- `CFG_k.pre`, the boot-time prescaler of unit k, OPEN (`00_scope` R6; log 13). -/
opaque Config.bootPrescale : UnitId → Word

/-- `CFG_k.m0`, the boot-time `MATCH0` of unit k, OPEN (`00_scope` R6; log 13). -/
opaque Config.bootMatch0 : UnitId → Word

/-- `CFG_k.m1`, the boot-time `MATCH1` of unit k, OPEN (`00_scope` R6; log 13). -/
opaque Config.bootMatch1 : UnitId → Word

/-- `tone_pre`, the prescaler the tone sequence uses, OPEN (`44_host_sequences` R208; log 13). -/
opaque Config.tonePre : Word

/-- `tone_top(freq)`, OPEN (`44_host_sequences` R208, `92` D27; log 13). -/
opaque Config.toneTop : Nat → Word

/-- `tone_duty(freq, volume)`, OPEN (`44_host_sequences` R208, `92` D27; log 13). -/
opaque Config.toneDuty : Nat → Nat → Word

/-- `BLOCK_BASE`, where the block sits in the host's address map, OPEN; no rule of the block reads it
(`20_memory` R68; log 13). -/
opaque Config.blockBase : Nat

end Sys2Proof
end

