-- ==== Sys2Proof/Machine/State.lean ====
section
/-! DEFINITION. The state of the block (`10_state` R22, "the complete state of the block") and the
model's own fields beside it, the reasons a run stops, and the state after reset (`10_state` R43). -/

namespace Sys2Proof.Machine

open Sys2Proof

/-- What every timer unit has (`10_state` R22, R33, R34, R37, R41). -/
structure TimerUnit where
  /-- `Uk.EN`: the unit is armed (R33). -/
  en : Bool
  /-- `Uk.PRESCALE` (R34). -/
  prescale : Word
  /-- `Uk.COUNT` (R37). -/
  count : Word
  /-- `Uk.PSC`, the hidden prescale counter (R41). -/
  psc : Word
deriving DecidableEq, Repr

/-- A unit after `RESET`: disarmed, everything 0 (`10_state` R43). -/
def TimerUnit.reset : TimerUnit := { en := false, prescale := 0, count := 0, psc := 0 }

/-- The Audio Buffer Pool: the written bytes only, by byte address of the buffer window
(`20_memory` R62), addresses strictly rising; an address not listed is unwritten (R74; log 10). -/
abbrev Memory := List Host.Cell

/-- What the last operation showed on the ports that are no function of the state
(`70_reset_and_hazards` R269; log 3). -/
structure Output where
  /-- The value an `RD` returned (`reg_rdata`, `30_encoding` R81); nothing after `WR` and `EVT`. -/
  rdata : Option Word
  /-- One pulse was emitted on `adc_trigger` (`41_timer_units` R137). -/
  adcTrigger : Bool
deriving DecidableEq, Repr

/-- The operation returned nothing and emitted no pulse. -/
def Output.quiet : Output := { rdata := none, adcTrigger := false }

/-- The operation was an `RD` that returned `v`. -/
def Output.returned (v : Word) : Output := { rdata := some v, adcTrigger := false }

/-- The state. The fields up to `clkOut` are those of `10_state` R22; `cfg`, `trace`, `out` and `epoch`
are the model's own (logs 1, 3, 4, 5). -/
structure State where
  /-- `tick_cnt`, the Tick Counter (R24). -/
  tickCnt : Word
  /-- `slow_poll`, the Slow-Poll Countdown (R25). -/
  slowPoll : Word
  /-- `cap_en`, the live source is selected (R26). -/
  capEn : Bool
  /-- `pb_en`, the playback source is selected (R26). -/
  pbEn : Bool
  /-- `put_index`, the buffer being filled (R28). -/
  putIndex : BitVec 8
  /-- `fill_offset`, the next offset to store at (R28). -/
  fillOffset : BitVec 9
  /-- `ready_count`, completed buffers not yet drained (R28). -/
  readyCount : BitVec 8
  /-- `overrun_count` (R30). -/
  overrunCount : Word
  /-- `missed_count` (R31). -/
  missedCount : Word
  /-- `peak`, the Peak Audio Level (R29). -/
  peak : Byte
  /-- `fpe`, the Frame Pacing Edge, the block's only flag (R39). -/
  fpe : Bool
  /-- `pb_div`, the playback divider (R32). -/
  pbDiv : BitVec 9
  /-- `BUF`, the Audio Buffer Pool (R40). -/
  pool : Memory
  /-- Unit 1, the delay unit. -/
  u1 : TimerUnit
  /-- Unit 2, the clock-generation unit. -/
  u2 : TimerUnit
  /-- Unit 3, the sample-period unit. -/
  u3 : TimerUnit
  /-- Unit 4, the backlight-PWM unit. -/
  u4 : TimerUnit
  /-- `U2.MATCH0` (R35). -/
  u2Match0 : Word
  /-- `U3.MATCH0` (R35). -/
  u3Match0 : Word
  /-- `U4.MATCH0` (R35). -/
  u4Match0 : Word
  /-- `U3.MATCH1` (R36). -/
  u3Match1 : Word
  /-- `U4.MATCH1` (R36). -/
  u4Match1 : Word
  /-- `U3.TONE`: unit 3 is in the tone role (R38). -/
  u3Tone : Bool
  /-- `clk_out`, the stored bit of unit 2's toggled pin (R41 (2), `41_timer_units` R135); the output is
  `clkOutLevel` (log 17). -/
  clkOut : Bool
  /-- The block's parameters, which no operation changes (`00_scope` R6; log 4). -/
  cfg : Params
  /-- The operations still to be presented, the next one first: the schedule (R42(4); log 1). -/
  trace : List OpWord
  /-- What the last operation showed (log 3). -/
  out : Output
  /-- How many `RESET`s were performed; it selects the free value of an unwritten byte (log 5). -/
  epoch : Nat
deriving DecidableEq, Repr

/-- Why a run stops. The hardware raises no exception (`60_exceptions` R225); F1 to F3 are the model
faults of R226, each with the record of R226's table. -/
inductive Fault where
  /-- F1: a configuration register of an armed unit is written (`60_exceptions` R227). Raised by
  `WR.Uk_PRESCALE`, `WR.Uk_MATCH0`, `WR.U3_MATCH1`, `WR.U3_ROLE`. Safe: the hardware goes on with a
  result the spec leaves unspecified (log 9). -/
  | reconfigWhileArmed (unit : UnitId) (offset : BitVec 5) (wdata : Word)
  /-- F2: unit 3 is taken from its sample role, or is not in it, while a source is selected
  (`60_exceptions` R228). Raised by `WR.U3_CTRL`, `WR.U3_ROLE`, `WR.PIPE_CTRL`. Safe, as F1 (log 9). -/
  | toneDuringCapture (addr : Addr) (wdata : Word) (capEn pbEn : Bool)
  /-- F3: both frame-pacing sources are selected (`60_exceptions` R229). Raised by `WR.PIPE_CTRL`.
  Safe, as F1 (log 9). -/
  | bothSourcesEnabled (wdata : Word)
  /-- The trace is over, so the run ends (`70_reset_and_hazards` R269). Raised by `step` alone. Safe:
  the hardware waits for the next operation (log 2). -/
  | traceEnded
deriving DecidableEq, Repr

/-- Why an operation has no meaning here. -/
inductive Refusal where
  /-- The named row of the opcode table has no meaning in the model. Raised by no arm of `exec`, since
  every row has one. Safe. -/
  | notModelled (mnemonic : String)
deriving DecidableEq, Repr

/-- The state after `RESET` (`10_state` R43). The pool has no written byte. The parameters are the
body-less ones of Config (log 4), nothing is presented yet (log 1), and no operation has shown
anything (log 3). -/
def State.reset : State where
  tickCnt := 0
  slowPoll := 0
  capEn := false
  pbEn := false
  putIndex := 0
  fillOffset := 0
  readyCount := 0
  overrunCount := 0
  missedCount := 0
  peak := 0
  fpe := false
  pbDiv := 0
  pool := []
  u1 := TimerUnit.reset
  u2 := TimerUnit.reset
  u3 := TimerUnit.reset
  u4 := TimerUnit.reset
  u2Match0 := 0
  u3Match0 := 0
  u4Match0 := 0
  u3Match1 := 0
  u4Match1 := 0
  u3Tone := false
  clkOut := false
  cfg := Config.params
  trace := []
  out := Output.quiet
  epoch := 0

end Sys2Proof.Machine
end

