-- ==== Sys2Proof/Machine/Operands.lean ====
section
/-! DEFINITION. The fields of write data and addresses (`30_encoding` R85, `10_state` R24 to R38), the
values register reads assemble from state fields, and the arithmetic of `00_scope` R9, R10. -/

namespace Sys2Proof.Machine

open Sys2Proof

/-- `sat_inc_M(v)`: `v + 1` below the ceiling, else unchanged (`00_scope` R9, R10(2)). -/
def satInc (ceiling v : Word) : Word := if v < ceiling then v + 1 else v

/-- The ceiling `2^32-1` of `overrun_count` and `missed_count` (`00_scope` R10(2), `92` D11). -/
def counterMax : Word := 0xFFFFFFFF#32

/-- `dec_floor0(v)`: `v - 1` above zero, else 0 (`00_scope` R9, R10(3)). -/
def decFloor0 {n : Nat} (v : BitVec n) : BitVec n := if 0 < v then v - 1 else 0

/-- `zext` of one bit (`00_scope` R8). -/
def bitWord (b : Bool) : Word := (BitVec.ofBool b).setWidth 32

/-- `PIPE_CTRL.CAP_EN`, bit 0 (`10_state` R26). -/
def fieldCapEn (wdata : Word) : Bool := wdata.getLsbD 0

/-- `PIPE_CTRL.PB_EN`, bit 1 (`10_state` R26). -/
def fieldPbEn (wdata : Word) : Bool := wdata.getLsbD 1

/-- `PIPE_CMD.DRAIN`, bit 0 (`10_state` R27). -/
def fieldDrain (wdata : Word) : Bool := wdata.getLsbD 0

/-- `PIPE_CMD.EDGE_CLR`, bit 1 (`10_state` R27). -/
def fieldEdgeClr (wdata : Word) : Bool := wdata.getLsbD 1

/-- `PIPE_CMD.SESSION_RESET`, bit 2 (`10_state` R27). -/
def fieldSessionReset (wdata : Word) : Bool := wdata.getLsbD 2

/-- `Uk_CTRL.EN`, bit 0 (`10_state` R33). -/
def fieldEn (wdata : Word) : Bool := wdata.getLsbD 0

/-- `Uk_CTRL.CLR`, bit 1 (`10_state` R33). -/
def fieldClr (wdata : Word) : Bool := wdata.getLsbD 1

/-- `U3_ROLE.TONE`, bit 8 (`10_state` R38). -/
def fieldTone (wdata : Word) : Bool := wdata.getLsbD 8

/-- `b = addr[14:9]`, the buffer index of a window address (`30_encoding` R85(1)). -/
def bufIndex (addr : Addr) : BitVec 6 := addr.extractLsb' 9 6

/-- `o = addr[8:0]`, the byte offset of a window address (`30_encoding` R85(1)). -/
def bufOffset (addr : Addr) : BitVec 9 := addr.extractLsb' 0 9

/-- The window address of `BUF[b][o]`: `0x8000 + 512*b + o` (`20_memory` R62). -/
def windowAddr (b o : Nat) : Nat := 0x8000 + 512 * b + o

/-- The sample of a conversion: `raw[ADC_W-1:ADC_W-8]`, where `raw` is the low `ADC_W` bits of the
event's data (`42_audio_pipeline` R161, `30_encoding` R83, `92` D30). -/
def sampleOf (adcW : Nat) (data : Word) : Byte := data.extractLsb' (adcW - 8) 8

/-- `PIPE_CTRL` as read (`42_audio_pipeline` R170). -/
def pipeCtrlWord (s : State) : Word := bitWord s.capEn ||| (bitWord s.pbEn <<< 1)

/-- `PIPE_STAT` as read (`42_audio_pipeline` R175, `10_state` R28). -/
def pipeStatWord (s : State) : Word :=
  (bitWord s.fpe <<< 31) ||| (s.fillOffset.setWidth 32 <<< 16) ||| (s.putIndex.setWidth 32 <<< 8)
    ||| s.readyCount.setWidth 32

/-- The role code `k - 1` of unit k (`10_state` R38). -/
def roleCode : UnitId → Word
  | .u1 => 0
  | .u2 => 1
  | .u3 => 2
  | .u4 => 3

/-- Offset of `Uk_PRESCALE` in the unit's block, `addr[4:0]` (`10_state` R34). -/
def offsetPrescale : BitVec 5 := 0x04#5

/-- Offset of `Uk_MATCH0` (`10_state` R35). -/
def offsetMatch0 : BitVec 5 := 0x08#5

/-- Offset of `Uk_MATCH1` (`10_state` R36). -/
def offsetMatch1 : BitVec 5 := 0x0C#5

/-- Offset of `Uk_ROLE` (`10_state` R38). -/
def offsetRole : BitVec 5 := 0x14#5

/-- Address of `PIPE_CTRL` (`10_state` R23). -/
def addrPipeCtrl : Addr := 0x0010#16

/-- Address of `U3_CTRL`, `UB(3)` (`10_state` R23). -/
def addrU3Ctrl : Addr := 0x0080#16

/-- Address of `U3_ROLE`, `UB(3) + 0x14` (`10_state` R23). -/
def addrU3Role : Addr := 0x0094#16

end Sys2Proof.Machine
end

