-- ==== Sys2Proof/Machine/Ops.lean ====
section
/-! DEFINITION. The named operations over the buffer pool and the registers, which the meanings share.
The block takes no exception and returns from none (`60_exceptions` R225, R235, R236), so there is no
such operation here; a model fault ends the run (R226). -/

namespace Sys2Proof.Machine

open Sys2Proof

/-! ## The buffer pool -/

/-- The canonical form of the pool: addresses strictly rising. An unlisted address reads as no value, so
no entry can equal what it reads as (log 10). -/
abbrev Memory.wf (m : Memory) : Prop := m.Pairwise (fun c d => c.1 < d.1)

/-- The written byte at an address, or nothing where the byte is unwritten (`20_memory` R74). -/
def Memory.read : Memory → Nat → Option Byte
  | [], _ => none
  | c :: m, a => if c.1 = a then some c.2 else Memory.read m a

/-- Store one byte (`42_audio_pipeline` R162), keeping the addresses rising. -/
def Memory.write : Memory → Nat → Byte → Memory
  | [], a, v => [(a, v)]
  | c :: m, a, v =>
    if a < c.1 then (a, v) :: c :: m
    else if c.1 = a then (a, v) :: m
    else c :: Memory.write m a v

/-- What a byte of the window holds: its written value, or the free value of an unwritten byte
(`20_memory` R74, `93` U4; log 5). -/
def State.bufByte (s : State) (a : Nat) : Byte :=
  match s.pool.read a with
  | some v => v
  | none => Config.freeByte s.epoch a

/-- `MemRead(addr, 4)`: four bytes, little-endian (`20_memory` R63). -/
def State.bufWord (s : State) (a : Nat) : Word :=
  s.bufByte (a + 3) ++ (s.bufByte (a + 2) ++ (s.bufByte (a + 1) ++ s.bufByte a))

/-! ## What an operation shows -/

/-- The operation returns nothing (`30_encoding` R82, R83). -/
def State.quiet (s : State) : State := { s with out := Output.quiet }

/-- The operation is a read that returns `v` and changes nothing else (`30_encoding` R81, `20_memory`
R67). -/
def State.answer (s : State) (v : Word) : State := { s with out := Output.returned v }

/-- `emit adc_trigger` (`41_timer_units` R126, R137). -/
def State.emitTrigger (s : State) : State := { s with out := { s.out with adcTrigger := true } }

/-! ## The timer units by index -/

/-- Unit k. -/
def State.unit (s : State) : UnitId → TimerUnit
  | .u1 => s.u1
  | .u2 => s.u2
  | .u3 => s.u3
  | .u4 => s.u4

/-- Replace unit k. -/
def State.setUnit (s : State) (k : UnitId) (u : TimerUnit) : State :=
  match k with
  | .u1 => { s with u1 := u }
  | .u2 => { s with u2 := u }
  | .u3 => { s with u3 := u }
  | .u4 => { s with u4 := u }

/-- `Uk.MATCH0` as read; not implemented for unit 1, reads 0 (`10_state` R35, `30_encoding` R88(5)). -/
def State.match0 (s : State) : UnitId → Word
  | .u1 => 0
  | .u2 => s.u2Match0
  | .u3 => s.u3Match0
  | .u4 => s.u4Match0

/-- `Uk.MATCH1` as read; not implemented for units 1 and 2, reads 0 (`10_state` R36, `30_encoding`
R88(5)). -/
def State.match1 (s : State) : UnitId → Word
  | .u1 => 0
  | .u2 => 0
  | .u3 => s.u3Match1
  | .u4 => s.u4Match1

/-- Clear a unit's `COUNT` and `PSC`, the command `CLR` (`10_state` R33). -/
def TimerUnit.clear (u : TimerUnit) : TimerUnit := { u with count := 0, psc := 0 }

/-! ## Sources -/

/-- `src_on`: a frame-pacing source is selected (`60_exceptions` R228). -/
def State.srcOn (s : State) : Bool := s.capEn || s.pbEn

end Sys2Proof.Machine
end

