-- ==== Sys2Proof/Machine/Flags.lean ====
section
/-! DEFINITION. The Frame Pacing Edge, the block's only flag (`10_state` R39): setting it with the
missed-frame count, clearing it, and the playback divider that sets it every 512 sample periods. -/

namespace Sys2Proof.Machine

open Sys2Proof

/-- `EDGE_SET()`: a missed frame is counted where the edge is still set, then the edge is set
(`43_frame_pacing` R190). -/
def edgeSet (s : State) : State :=
  { s with
    missedCount := if s.fpe then satInc counterMax s.missedCount else s.missedCount
    fpe := true }

/-- `EDGE_CLR()` (`43_frame_pacing` R193). -/
def edgeClr (s : State) : State := { s with fpe := false }

/-- `PACE_STEP()`: the playback source counts one sample period (`43_frame_pacing` R192). -/
def paceStep (s : State) : State :=
  if s.pbDiv = 511#9 then edgeSet { s with pbDiv := 0 }
  else { s with pbDiv := s.pbDiv + 1 }

end Sys2Proof.Machine
end

