-- ==== Sys2Proof/Machine/Pipeline.lean ====
section
/-! DEFINITION. The Audio Capture Pipeline and the registers of the Frame Pacing Edge: `EVT.ADC_DONE`,
`PIPE_CTRL`, `PIPE_CMD`, `PIPE_STAT`, `PEAK`, `OVERRUN`, `MISSED`, `PB_DIV`, and the buffer window
(`42_audio_pipeline`, `43_frame_pacing`). -/

namespace Sys2Proof.Machine

open Sys2Proof

/-! ## The producer -/

/-- A completion counts: `ready_count` up to the ceiling `N-1`, else an overrun (R167). -/
def countCompletion (s : State) : State :=
  if s.readyCount.toNat < s.cfg.bufCount - 1 then { s with readyCount := s.readyCount + 1 }
  else { s with overrunCount := satInc counterMax s.overrunCount }

/-- The circular advance of `put_index` (R168). -/
def advancePut (s : State) : State :=
  { s with
    putIndex := if s.putIndex.toNat < s.cfg.bufCount - 1 then s.putIndex + 1 else 0 }

/-- Step 4 of the producer, buffer completion (R164). -/
def completeBuffer (s : State) : State :=
  advancePut (countCompletion (edgeSet { s with fillOffset := 0, peak := 0 }))

/-- Step 2, the store into `BUF[put_index][fill_offset]` (R162). -/
def storeSample (v : Byte) (s : State) : State :=
  { s with pool := s.pool.write (windowAddr s.putIndex.toNat s.fillOffset.toNat) v }

/-- Step 3, the peak (R163). -/
def updatePeak (v : Byte) (s : State) : State :=
  { s with peak := if s.peak < v then v else s.peak }

/-- Steps 4 and 5: the completion at offset 511, else the next offset (R164, R165). -/
def advanceFill (s : State) : State :=
  if s.fillOffset = 511#9 then completeBuffer s else { s with fillOffset := s.fillOffset + 1 }

/-- The producer, steps 1 to 6 of one performed conversion (R160 to R166). -/
def produce (data : Word) (s : State) : State :=
  let v := sampleOf s.cfg.adcW data
  advanceFill (updatePeak v (storeSample v s))

/-- `EVT.ADC_DONE` (R160): dropped whole unless the live source is selected. -/
def execEvtAdcDone (data : Word) (s : State) : Host.Outcome State Fault Refusal :=
  .next (if s.capEn then produce data s.quiet else s.quiet)

/-! ## Source selection -/

/-- `WR.PIPE_CTRL` (R169): F3 before F2 (`60_exceptions` R228(3), R229, R234). -/
def execWrPipeCtrl (wdata : Word) (s : State) : Host.Outcome State Fault Refusal :=
  if fieldCapEn wdata && fieldPbEn wdata then .fault (.bothSourcesEnabled wdata)
  else if (fieldCapEn wdata || fieldPbEn wdata) && s.u3Tone then
    .fault (.toneDuringCapture addrPipeCtrl wdata s.capEn s.pbEn)
  else .next { s.quiet with capEn := fieldCapEn wdata, pbEn := fieldPbEn wdata }

/-- `RD.PIPE_CTRL` (R170). -/
def execRdPipeCtrl (s : State) : Host.Outcome State Fault Refusal :=
  .next (s.answer (pipeCtrlWord s))

/-! ## The consumer's commands -/

/-- `DRAIN` (R172). -/
def drain (s : State) : State := { s with readyCount := decFloor0 s.readyCount }

/-- `SESSION_RESET` (R173): ignored while a source is selected. -/
def sessionReset (s : State) : State :=
  if s.srcOn then s
  else { s with
    putIndex := 0, fillOffset := 0, readyCount := 0, overrunCount := 0, missedCount := 0, peak := 0,
    fpe := false, pbDiv := 0 }

/-- `WR.PIPE_CMD` (R171): the commands written 1, in the order `DRAIN`, `EDGE_CLR`, `SESSION_RESET`. -/
def execWrPipeCmd (wdata : Word) (s : State) : Host.Outcome State Fault Refusal :=
  let s1 := if fieldDrain wdata then drain s.quiet else s.quiet
  let s2 := if fieldEdgeClr wdata then edgeClr s1 else s1
  .next (if fieldSessionReset wdata then sessionReset s2 else s2)

/-- `RD.PIPE_CMD` (R174): write-only, reads 0. -/
def execRdPipeCmd (s : State) : Host.Outcome State Fault Refusal := .next (s.answer 0)

/-! ## Status reads -/

/-- `RD.PIPE_STAT` (R175). -/
def execRdPipeStat (s : State) : Host.Outcome State Fault Refusal :=
  .next (s.answer (pipeStatWord s))

/-- `RD.PEAK` (R176). -/
def execRdPeak (s : State) : Host.Outcome State Fault Refusal :=
  .next (s.answer (s.peak.setWidth 32))

/-- `RD.OVERRUN` (R177). -/
def execRdOverrun (s : State) : Host.Outcome State Fault Refusal := .next (s.answer s.overrunCount)

/-- `RD.MISSED` (`43_frame_pacing` R197). -/
def execRdMissed (s : State) : Host.Outcome State Fault Refusal := .next (s.answer s.missedCount)

/-- `RD.PB_DIV` (`43_frame_pacing` R195). -/
def execRdPbDiv (s : State) : Host.Outcome State Fault Refusal :=
  .next (s.answer (s.pbDiv.setWidth 32))

/-! ## The buffer window -/

/-- `RD.BUF` (R180): four samples of buffer `b < N`, else 0. -/
def execRdBuf (addr : Addr) (s : State) : Host.Outcome State Fault Refusal :=
  .next (s.answer
    (if (bufIndex addr).toNat < s.cfg.bufCount then
      s.bufWord (windowAddr (bufIndex addr).toNat (bufOffset addr).toNat)
    else 0))

/-- `WR.BUF` (R181): the window is read-only. -/
def execWrBuf (_addr : Addr) (_wdata : Word) (s : State) : Host.Outcome State Fault Refusal :=
  .next s.quiet

end Sys2Proof.Machine
end

