-- ==== Sys2Proof/Machine/System.lean ====
section
/-! DEFINITION. `EVT.RESET` (`70_reset_and_hazards` R255) and the reserved encodings (`30_encoding` R87,
R88). -/

namespace Sys2Proof.Machine

open Sys2Proof

/-- `EVT.RESET` (R255): every register to its reset value, and every buffer byte becomes unwritten, with
a free value of its own from now on (log 5). The parameters and the schedule are no state of the block
and stay (log 6). -/
def execEvtReset (s : State) : Host.Outcome State Fault Refusal :=
  .next { s.quiet with
    tickCnt := 0, slowPoll := 0, capEn := false, pbEn := false, putIndex := 0, fillOffset := 0,
    readyCount := 0, overrunCount := 0, missedCount := 0, peak := 0, fpe := false, pbDiv := 0,
    pool := [], u1 := TimerUnit.reset, u2 := TimerUnit.reset, u3 := TimerUnit.reset,
    u4 := TimerUnit.reset, u2Match0 := 0, u3Match0 := 0, u4Match0 := 0, u3Match1 := 0, u4Match1 := 0,
    u3Tone := false, clkOut := false, epoch := s.epoch + 1 }

/-- `RD.RESERVED`: a read of a reserved address returns 0 (`30_encoding` R88(1), `20_memory` R65). -/
def execRdReserved (_addr : Addr) (s : State) : Host.Outcome State Fault Refusal :=
  .next (s.answer 0)

/-- `WR.RESERVED`: a write to a reserved address or a read-only register does nothing (`30_encoding`
R88(2)). -/
def execWrReserved (_addr : Addr) (_wdata : Word) (s : State) : Host.Outcome State Fault Refusal :=
  .next s.quiet

/-- `EVT.RESERVED`: no operation (`30_encoding` R87). -/
def execEvtReserved (_evt : BitVec 16) (s : State) : Host.Outcome State Fault Refusal := .next s.quiet

/-- `OP.RESERVED`: no operation (`30_encoding` R87). -/
def execOpReserved (_sel : BitVec 16) (s : State) : Host.Outcome State Fault Refusal :=
  .next s.quiet

end Sys2Proof.Machine
end

