-- ==== Sys2Proof/Machine/Tick.lean ====
section
/-! DEFINITION. The Tick Service: `EVT.TICK`, `RD` and `WR` of `TICK_CNT` and `SLOW_POLL`
(`40_tick_service`). -/

namespace Sys2Proof.Machine

open Sys2Proof

/-- `EVT.TICK` (R100): the Tick Counter saturates, the countdown floors at zero. -/
def execEvtTick (s : State) : Host.Outcome State Fault Refusal :=
  .next { s.quiet with
    tickCnt := satInc s.cfg.tickMax s.tickCnt
    slowPoll := decFloor0 s.slowPoll }

/-- `RD.TICK_CNT` (R101). -/
def execRdTickCnt (s : State) : Host.Outcome State Fault Refusal := .next (s.answer s.tickCnt)

/-- `RD.SLOW_POLL` (R103). -/
def execRdSlowPoll (s : State) : Host.Outcome State Fault Refusal := .next (s.answer s.slowPoll)

/-- `WR.TICK_CNT` (R102): clears, the data is ignored. -/
def execWrTickCnt (_wdata : Word) (s : State) : Host.Outcome State Fault Refusal :=
  .next { s.quiet with tickCnt := 0 }

/-- `WR.SLOW_POLL` (R104): reloads `SP_PERIOD`, the data is ignored. -/
def execWrSlowPoll (_wdata : Word) (s : State) : Host.Outcome State Fault Refusal :=
  .next { s.quiet with slowPoll := s.cfg.spPeriod }

end Sys2Proof.Machine
end

