-- ==== Sys2Proof/Machine/Timers.lean ====
section
/-! DEFINITION. The four timer units: `EVT.CLK` and the registers `Uk_CTRL`, `Uk_PRESCALE`, `Uk_MATCH0`,
`Uk_MATCH1`, `Uk_COUNT`, `Uk_ROLE` (`41_timer_units`). A rule written for a unit index k is one shared
operation over `UnitId`; each register has a meaning of its own that calls it. -/

namespace Sys2Proof.Machine

open Sys2Proof

/-! ## Counting: the CLK operation -/

/-- Unit 3's match in the sample role: the trigger in live mode, the pacing step in playback (R126);
nothing in the tone role (R127). -/
def samplePeriodEdge (s : State) : State :=
  if s.u3Tone then s
  else
    let s1 := if s.capEn then s.emitTrigger else s
    if s1.pbEn then paceStep s1 else s1

/-- `MATCH_ACTION(k)`: unit 2 toggles its pin (R125), unit 3 has its sample-period edge (R126, R127),
unit 4 does nothing (R128); unit 1 has no match (R124). -/
def matchAction (k : UnitId) (s : State) : State :=
  match k with
  | .u1 => s
  | .u2 => { s with clkOut := !s.clkOut }
  | .u3 => samplePeriodEdge s
  | .u4 => s

/-- One count of a unit with a match register: reset to 0 and act at the match, else up by one (R123). -/
def countToMatch (k : UnitId) (s : State) : State :=
  if s.match0 k ≤ (s.unit k).count then matchAction k (s.setUnit k { s.unit k with count := 0 })
  else s.setUnit k { s.unit k with count := (s.unit k).count + 1 }

/-- `COUNT_TICK(k)` (R123): unit 1 is free-running and wraps (R124). -/
def countTick (k : UnitId) (s : State) : State :=
  match k with
  | .u1 => s.setUnit .u1 { s.u1 with count := s.u1.count + 1 }
  | .u2 => countToMatch .u2 s
  | .u3 => countToMatch .u3 s
  | .u4 => countToMatch .u4 s

/-- `PRESCALE_STEP(k)` (R122). -/
def prescaleStep (k : UnitId) (s : State) : State :=
  if (s.unit k).prescale ≤ (s.unit k).psc then
    countTick k (s.setUnit k { s.unit k with psc := 0 })
  else s.setUnit k { s.unit k with psc := (s.unit k).psc + 1 }

/-- One clock period of unit k: a disarmed unit holds (R121). -/
def clockUnit (k : UnitId) (s : State) : State := if (s.unit k).en then prescaleStep k s else s

/-- `EVT.CLK` (R121): units 1, 2, 3, 4 in this order. -/
def execEvtClk (s : State) : Host.Outcome State Fault Refusal :=
  .next (clockUnit .u4 (clockUnit .u3 (clockUnit .u2 (clockUnit .u1 s.quiet))))

/-! ## Writes, by unit index -/

/-- The command `CLR` on unit k; unit 2's pin goes low with it (R130 step 1, R135). -/
def clearUnit (k : UnitId) (s : State) : State :=
  match k with
  | .u1 => s.setUnit .u1 s.u1.clear
  | .u2 => { s.setUnit .u2 s.u2.clear with clkOut := false }
  | .u3 => s.setUnit .u3 s.u3.clear
  | .u4 => s.setUnit .u4 s.u4.clear

/-- Clear if `CLR`, then arm or disarm by `EN` (R130 steps 1 and 2, R131 steps 1 and 2). Disarming unit 2
without `CLR` keeps the stored bit `clk_out` and takes the output to 0 (DEDUCED, log 17; `clkOutLevel`). -/
def writeCtrl (k : UnitId) (wdata : Word) (s : State) : State :=
  let s1 := if fieldClr wdata then clearUnit k s else s
  s1.setUnit k { s1.unit k with en := fieldEn wdata }

/-- `WR.Uk_PRESCALE` (R132): F1 while armed (`60_exceptions` R227(1)). -/
def writePrescale (k : UnitId) (wdata : Word) (s : State) : Host.Outcome State Fault Refusal :=
  if (s.unit k).en then .fault (.reconfigWhileArmed k offsetPrescale wdata)
  else .next (s.quiet.setUnit k { s.unit k with prescale := wdata })

/-- Store `Uk.MATCH0`; not implemented for unit 1, write ignored (`10_state` R35). -/
def State.setMatch0 (s : State) (k : UnitId) (v : Word) : State :=
  match k with
  | .u1 => s
  | .u2 => { s with u2Match0 := v }
  | .u3 => { s with u3Match0 := v }
  | .u4 => { s with u4Match0 := v }

/-- `WR.Uk_MATCH0` for k = 2, 3, 4 (R133): F1 while armed (`60_exceptions` R227(2)). -/
def writeMatch0 (k : UnitId) (wdata : Word) (s : State) : Host.Outcome State Fault Refusal :=
  if (s.unit k).en then .fault (.reconfigWhileArmed k offsetMatch0 wdata)
  else .next (s.quiet.setMatch0 k wdata)

/-! ## Reads, by unit index -/

/-- `RD.Uk_CTRL` (R138): `EN` in bit 0, all else 0. -/
def readCtrl (k : UnitId) (s : State) : State := s.answer (bitWord (s.unit k).en)

/-- `RD.Uk_PRESCALE` (R140). -/
def readPrescale (k : UnitId) (s : State) : State := s.answer (s.unit k).prescale

/-- `RD.Uk_MATCH0` (R142): 0 where not implemented. -/
def readMatch0 (k : UnitId) (s : State) : State := s.answer (s.match0 k)

/-- `RD.Uk_MATCH1` (R143): 0 where not implemented. -/
def readMatch1 (k : UnitId) (s : State) : State := s.answer (s.match1 k)

/-- `RD.Uk_COUNT` (R144). -/
def readCount (k : UnitId) (s : State) : State := s.answer (s.unit k).count

/-- `RD.Uk_ROLE` (R145) of a unit whose only field is the role code: k = 1, 2, 4. -/
def readRole (k : UnitId) (s : State) : State := s.answer (roleCode k)

/-! ## The meanings: reads -/

/-- `RD.U1_CTRL` (R138). -/
def execRdU1Ctrl (s : State) : Host.Outcome State Fault Refusal := .next (readCtrl .u1 s)

/-- `RD.U1_PRESCALE` (R140). -/
def execRdU1Prescale (s : State) : Host.Outcome State Fault Refusal := .next (readPrescale .u1 s)

/-- `RD.U1_MATCH0` (R142). -/
def execRdU1Match0 (s : State) : Host.Outcome State Fault Refusal := .next (readMatch0 .u1 s)

/-- `RD.U1_MATCH1` (R143). -/
def execRdU1Match1 (s : State) : Host.Outcome State Fault Refusal := .next (readMatch1 .u1 s)

/-- `RD.U1_COUNT` (R144). -/
def execRdU1Count (s : State) : Host.Outcome State Fault Refusal := .next (readCount .u1 s)

/-- `RD.U1_ROLE` (R145). -/
def execRdU1Role (s : State) : Host.Outcome State Fault Refusal := .next (readRole .u1 s)

/-- `RD.U2_CTRL` (R138). -/
def execRdU2Ctrl (s : State) : Host.Outcome State Fault Refusal := .next (readCtrl .u2 s)

/-- `RD.U2_PRESCALE` (R140). -/
def execRdU2Prescale (s : State) : Host.Outcome State Fault Refusal := .next (readPrescale .u2 s)

/-- `RD.U2_MATCH0` (R142). -/
def execRdU2Match0 (s : State) : Host.Outcome State Fault Refusal := .next (readMatch0 .u2 s)

/-- `RD.U2_MATCH1` (R143). -/
def execRdU2Match1 (s : State) : Host.Outcome State Fault Refusal := .next (readMatch1 .u2 s)

/-- `RD.U2_COUNT` (R144). -/
def execRdU2Count (s : State) : Host.Outcome State Fault Refusal := .next (readCount .u2 s)

/-- `RD.U2_ROLE` (R145). -/
def execRdU2Role (s : State) : Host.Outcome State Fault Refusal := .next (readRole .u2 s)

/-- `RD.U3_CTRL` (R138). -/
def execRdU3Ctrl (s : State) : Host.Outcome State Fault Refusal := .next (readCtrl .u3 s)

/-- `RD.U3_PRESCALE` (R140). -/
def execRdU3Prescale (s : State) : Host.Outcome State Fault Refusal := .next (readPrescale .u3 s)

/-- `RD.U3_MATCH0` (R142). -/
def execRdU3Match0 (s : State) : Host.Outcome State Fault Refusal := .next (readMatch0 .u3 s)

/-- `RD.U3_MATCH1` (R143). -/
def execRdU3Match1 (s : State) : Host.Outcome State Fault Refusal := .next (readMatch1 .u3 s)

/-- `RD.U3_COUNT` (R144). -/
def execRdU3Count (s : State) : Host.Outcome State Fault Refusal := .next (readCount .u3 s)

/-- `RD.U3_ROLE` (R145): `TONE` in bit 8 beside the role code. -/
def execRdU3Role (s : State) : Host.Outcome State Fault Refusal :=
  .next (s.answer ((bitWord s.u3Tone <<< 8) ||| roleCode .u3))

/-- `RD.U4_CTRL` (R138). -/
def execRdU4Ctrl (s : State) : Host.Outcome State Fault Refusal := .next (readCtrl .u4 s)

/-- `RD.U4_PRESCALE` (R140). -/
def execRdU4Prescale (s : State) : Host.Outcome State Fault Refusal := .next (readPrescale .u4 s)

/-- `RD.U4_MATCH0` (R142). -/
def execRdU4Match0 (s : State) : Host.Outcome State Fault Refusal := .next (readMatch0 .u4 s)

/-- `RD.U4_MATCH1` (R143). -/
def execRdU4Match1 (s : State) : Host.Outcome State Fault Refusal := .next (readMatch1 .u4 s)

/-- `RD.U4_COUNT` (R144). -/
def execRdU4Count (s : State) : Host.Outcome State Fault Refusal := .next (readCount .u4 s)

/-- `RD.U4_ROLE` (R145). -/
def execRdU4Role (s : State) : Host.Outcome State Fault Refusal := .next (readRole .u4 s)

/-! ## The meanings: writes -/

/-- `WR.U1_CTRL` (R130). -/
def execWrU1Ctrl (wdata : Word) (s : State) : Host.Outcome State Fault Refusal :=
  .next (writeCtrl .u1 wdata s.quiet)

/-- `WR.U1_PRESCALE` (R132). -/
def execWrU1Prescale (wdata : Word) (s : State) : Host.Outcome State Fault Refusal :=
  writePrescale .u1 wdata s

/-- `WR.U1_MATCH0` (R133): not implemented, ignored, never a fault. -/
def execWrU1Match0 (_wdata : Word) (s : State) : Host.Outcome State Fault Refusal := .next s.quiet

/-- `WR.U1_MATCH1` (R134): not implemented, ignored, never a fault. -/
def execWrU1Match1 (_wdata : Word) (s : State) : Host.Outcome State Fault Refusal := .next s.quiet

/-- `WR.U1_ROLE` (R136): no writable bit, ignored. -/
def execWrU1Role (_wdata : Word) (s : State) : Host.Outcome State Fault Refusal := .next s.quiet

/-- `WR.U2_CTRL` (R130). -/
def execWrU2Ctrl (wdata : Word) (s : State) : Host.Outcome State Fault Refusal :=
  .next (writeCtrl .u2 wdata s.quiet)

/-- `WR.U2_PRESCALE` (R132). -/
def execWrU2Prescale (wdata : Word) (s : State) : Host.Outcome State Fault Refusal :=
  writePrescale .u2 wdata s

/-- `WR.U2_MATCH0` (R133). -/
def execWrU2Match0 (wdata : Word) (s : State) : Host.Outcome State Fault Refusal :=
  writeMatch0 .u2 wdata s

/-- `WR.U2_MATCH1` (R134): not implemented, ignored, never a fault. -/
def execWrU2Match1 (_wdata : Word) (s : State) : Host.Outcome State Fault Refusal := .next s.quiet

/-- `WR.U2_ROLE` (R136): no writable bit, ignored. -/
def execWrU2Role (_wdata : Word) (s : State) : Host.Outcome State Fault Refusal := .next s.quiet

/-- `WR.U3_CTRL` (R131): F2 for clearing or disarming unit 3 while a source is selected (`60_exceptions`
R228(1)). -/
def execWrU3Ctrl (wdata : Word) (s : State) : Host.Outcome State Fault Refusal :=
  if s.srcOn && (fieldClr wdata || (s.u3.en && !fieldEn wdata)) then
    .fault (.toneDuringCapture addrU3Ctrl wdata s.capEn s.pbEn)
  else .next (writeCtrl .u3 wdata s.quiet)

/-- `WR.U3_PRESCALE` (R132). -/
def execWrU3Prescale (wdata : Word) (s : State) : Host.Outcome State Fault Refusal :=
  writePrescale .u3 wdata s

/-- `WR.U3_MATCH0` (R133). -/
def execWrU3Match0 (wdata : Word) (s : State) : Host.Outcome State Fault Refusal :=
  writeMatch0 .u3 wdata s

/-- `WR.U3_MATCH1` (R134): F1 while armed (`60_exceptions` R227(3)). -/
def execWrU3Match1 (wdata : Word) (s : State) : Host.Outcome State Fault Refusal :=
  if s.u3.en then .fault (.reconfigWhileArmed .u3 offsetMatch1 wdata)
  else .next { s.quiet with u3Match1 := wdata }

/-- `WR.U3_ROLE` (R136): writing the current `TONE` does nothing; a change is F1 while armed, and entering the
tone role is F2 while a source is selected; F1 is tested first (`60_exceptions` R227(4), R228(2),
R234). -/
def execWrU3Role (wdata : Word) (s : State) : Host.Outcome State Fault Refusal :=
  if fieldTone wdata = s.u3Tone then .next s.quiet
  else if s.u3.en then .fault (.reconfigWhileArmed .u3 offsetRole wdata)
  else if fieldTone wdata && s.srcOn then
    .fault (.toneDuringCapture addrU3Role wdata s.capEn s.pbEn)
  else .next { s.quiet with u3Tone := fieldTone wdata }

/-- `WR.U4_CTRL` (R130). -/
def execWrU4Ctrl (wdata : Word) (s : State) : Host.Outcome State Fault Refusal :=
  .next (writeCtrl .u4 wdata s.quiet)

/-- `WR.U4_PRESCALE` (R132). -/
def execWrU4Prescale (wdata : Word) (s : State) : Host.Outcome State Fault Refusal :=
  writePrescale .u4 wdata s

/-- `WR.U4_MATCH0` (R133). -/
def execWrU4Match0 (wdata : Word) (s : State) : Host.Outcome State Fault Refusal :=
  writeMatch0 .u4 wdata s

/-- `WR.U4_MATCH1` (R134): the duty is writable armed or not and takes effect at once. -/
def execWrU4Match1 (wdata : Word) (s : State) : Host.Outcome State Fault Refusal :=
  .next { s.quiet with u4Match1 := wdata }

/-- `WR.U4_ROLE` (R136): no writable bit, ignored. -/
def execWrU4Role (_wdata : Word) (s : State) : Host.Outcome State Fault Refusal := .next s.quiet

end Sys2Proof.Machine
end

