-- ==== Sys2Proof/Machine/Dispatch.lean ====
section
/-! DEFINITION. What each operation does: one arm per constructor of `Instr`, each one call of that
instruction's meaning. -/

namespace Sys2Proof.Machine

open Sys2Proof

/-- The meaning of an operation (`30_encoding` R90). -/
def exec (i : Instr) (s : State) : Host.Outcome State Fault Refusal :=
  match i with
  | .rdTickCnt => Sys2Proof.Machine.execRdTickCnt s
  | .rdSlowPoll => Sys2Proof.Machine.execRdSlowPoll s
  | .rdPipeCtrl => Sys2Proof.Machine.execRdPipeCtrl s
  | .rdPipeCmd => Sys2Proof.Machine.execRdPipeCmd s
  | .rdPipeStat => Sys2Proof.Machine.execRdPipeStat s
  | .rdPeak => Sys2Proof.Machine.execRdPeak s
  | .rdOverrun => Sys2Proof.Machine.execRdOverrun s
  | .rdMissed => Sys2Proof.Machine.execRdMissed s
  | .rdPbDiv => Sys2Proof.Machine.execRdPbDiv s
  | .rdU1Ctrl => Sys2Proof.Machine.execRdU1Ctrl s
  | .rdU1Prescale => Sys2Proof.Machine.execRdU1Prescale s
  | .rdU1Match0 => Sys2Proof.Machine.execRdU1Match0 s
  | .rdU1Match1 => Sys2Proof.Machine.execRdU1Match1 s
  | .rdU1Count => Sys2Proof.Machine.execRdU1Count s
  | .rdU1Role => Sys2Proof.Machine.execRdU1Role s
  | .rdU2Ctrl => Sys2Proof.Machine.execRdU2Ctrl s
  | .rdU2Prescale => Sys2Proof.Machine.execRdU2Prescale s
  | .rdU2Match0 => Sys2Proof.Machine.execRdU2Match0 s
  | .rdU2Match1 => Sys2Proof.Machine.execRdU2Match1 s
  | .rdU2Count => Sys2Proof.Machine.execRdU2Count s
  | .rdU2Role => Sys2Proof.Machine.execRdU2Role s
  | .rdU3Ctrl => Sys2Proof.Machine.execRdU3Ctrl s
  | .rdU3Prescale => Sys2Proof.Machine.execRdU3Prescale s
  | .rdU3Match0 => Sys2Proof.Machine.execRdU3Match0 s
  | .rdU3Match1 => Sys2Proof.Machine.execRdU3Match1 s
  | .rdU3Count => Sys2Proof.Machine.execRdU3Count s
  | .rdU3Role => Sys2Proof.Machine.execRdU3Role s
  | .rdU4Ctrl => Sys2Proof.Machine.execRdU4Ctrl s
  | .rdU4Prescale => Sys2Proof.Machine.execRdU4Prescale s
  | .rdU4Match0 => Sys2Proof.Machine.execRdU4Match0 s
  | .rdU4Match1 => Sys2Proof.Machine.execRdU4Match1 s
  | .rdU4Count => Sys2Proof.Machine.execRdU4Count s
  | .rdU4Role => Sys2Proof.Machine.execRdU4Role s
  | .rdBuf addr => Sys2Proof.Machine.execRdBuf addr s
  | .rdReserved addr => Sys2Proof.Machine.execRdReserved addr s
  | .wrTickCnt wdata => Sys2Proof.Machine.execWrTickCnt wdata s
  | .wrSlowPoll wdata => Sys2Proof.Machine.execWrSlowPoll wdata s
  | .wrPipeCtrl wdata => Sys2Proof.Machine.execWrPipeCtrl wdata s
  | .wrPipeCmd wdata => Sys2Proof.Machine.execWrPipeCmd wdata s
  | .wrU1Ctrl wdata => Sys2Proof.Machine.execWrU1Ctrl wdata s
  | .wrU1Prescale wdata => Sys2Proof.Machine.execWrU1Prescale wdata s
  | .wrU1Match0 wdata => Sys2Proof.Machine.execWrU1Match0 wdata s
  | .wrU1Match1 wdata => Sys2Proof.Machine.execWrU1Match1 wdata s
  | .wrU1Role wdata => Sys2Proof.Machine.execWrU1Role wdata s
  | .wrU2Ctrl wdata => Sys2Proof.Machine.execWrU2Ctrl wdata s
  | .wrU2Prescale wdata => Sys2Proof.Machine.execWrU2Prescale wdata s
  | .wrU2Match0 wdata => Sys2Proof.Machine.execWrU2Match0 wdata s
  | .wrU2Match1 wdata => Sys2Proof.Machine.execWrU2Match1 wdata s
  | .wrU2Role wdata => Sys2Proof.Machine.execWrU2Role wdata s
  | .wrU3Ctrl wdata => Sys2Proof.Machine.execWrU3Ctrl wdata s
  | .wrU3Prescale wdata => Sys2Proof.Machine.execWrU3Prescale wdata s
  | .wrU3Match0 wdata => Sys2Proof.Machine.execWrU3Match0 wdata s
  | .wrU3Match1 wdata => Sys2Proof.Machine.execWrU3Match1 wdata s
  | .wrU3Role wdata => Sys2Proof.Machine.execWrU3Role wdata s
  | .wrU4Ctrl wdata => Sys2Proof.Machine.execWrU4Ctrl wdata s
  | .wrU4Prescale wdata => Sys2Proof.Machine.execWrU4Prescale wdata s
  | .wrU4Match0 wdata => Sys2Proof.Machine.execWrU4Match0 wdata s
  | .wrU4Match1 wdata => Sys2Proof.Machine.execWrU4Match1 wdata s
  | .wrU4Role wdata => Sys2Proof.Machine.execWrU4Role wdata s
  | .wrBuf addr wdata => Sys2Proof.Machine.execWrBuf addr wdata s
  | .wrReserved addr wdata => Sys2Proof.Machine.execWrReserved addr wdata s
  | .evtReset => Sys2Proof.Machine.execEvtReset s
  | .evtClk => Sys2Proof.Machine.execEvtClk s
  | .evtTick => Sys2Proof.Machine.execEvtTick s
  | .evtAdcDone data => Sys2Proof.Machine.execEvtAdcDone data s
  | .evtReserved evt => Sys2Proof.Machine.execEvtReserved evt s
  | .opReserved sel => Sys2Proof.Machine.execOpReserved sel s

end Sys2Proof.Machine
end

