-- ==== Sys2Proof/Machine/Step.lean ====
section
/-! DEFINITION. One step: the next operation of the trace is decoded and performed (`10_state` R21,
`20_memory` R66, R69, `70_reset_and_hazards` R269; log 1). -/

namespace Sys2Proof.Machine

open Sys2Proof

/-- One step of the block: the first operation of the trace, performed whole. With no operation left
the run has ended (R269; log 2). -/
def step (s : State) : Host.Outcome State Fault Refusal :=
  match s.trace with
  | [] => .fault .traceEnded
  | w :: rest => exec (decode w) { s with trace := rest }

/-- The state with one operation presented next: the word is put in front of the trace, where `step`
takes it from. The block loads no program; operations are presented from outside (log 1, log 8). -/
def State.withFetchWord (s : State) (nbits w : Nat) : State :=
  { s with trace := opWordOfTable nbits w :: s.trace }

end Sys2Proof.Machine
end

