-- ==== Sys2Proof/Machine/Trace.lean ====
section
/-! DEFINITION. Runs of operations: a list of operations performed one after another, and the words one
clock cycle's ports present (`30_encoding` R97, `60_exceptions` R233). -/

namespace Sys2Proof.Machine

open Sys2Proof

/-- Perform operations in order, up to the first model fault (`70_reset_and_hazards` R269). -/
def runOps : List Instr → State → Host.Outcome State Fault Refusal
  | [], s => .next s
  | i :: is, s =>
    match exec i s with
    | .next t => runOps is t
    | .fault f => .fault f
    | .refused r => .refused r

/-- One access on the register interface (`00_scope` R13): `reg_we`, `reg_addr`, `reg_wdata`. -/
structure Access where
  /-- `reg_we`: a write. -/
  write : Bool
  /-- `reg_addr`. -/
  addr : Addr
  /-- `reg_wdata`, without meaning for a read. -/
  wdata : Word
deriving DecidableEq, Repr

/-- The inputs of the block at one rising edge of `clk` (`00_scope` R13; log 11). -/
structure Cycle where
  /-- `rst`. -/
  rst : Bool
  /-- `tick_10ms`. -/
  tick10ms : Bool
  /-- `adc_data` where `adc_done` is high. -/
  adcDone : Option Word
  /-- The access where `reg_sel` is high. -/
  access : Option Access
deriving DecidableEq, Repr

/-- The operation of one register access (`00_scope` R13, `30_encoding` R81, R82). -/
def accessWord (x : Access) : OpWord :=
  if x.write then mkOpWord 0b01#2 x.addr x.wdata else mkOpWord 0b00#2 x.addr 0#32

/-- The operations of one cycle, in order: `RESET` alone, or `CLK`, `TICK`, `ADC_DONE` and the host
access (`30_encoding` R97, `60_exceptions` R233). -/
def cycleWords (c : Cycle) : List OpWord :=
  if c.rst then [mkOpWord 0b10#2 0x0000#16 0#32]
  else
    [mkOpWord 0b10#2 0x0001#16 0#32]
      ++ (if c.tick10ms then [mkOpWord 0b10#2 0x0002#16 0#32] else [])
      ++ (match c.adcDone with
          | some data => [mkOpWord 0b10#2 0x0003#16 data]
          | none => [])
      ++ (match c.access with
          | some x => [accessWord x]
          | none => [])

/-- Present one cycle's operations after those already presented. -/
def presentCycle (c : Cycle) (s : State) : State := { s with trace := s.trace ++ cycleWords c }

end Sys2Proof.Machine
end

