-- ==== Sys2Proof/Machine/HostSequences.lean ====
section
/-! DEFINITION. The pseudo-operations of `30_encoding` R96: sequences of `RD` and `WR` operations that
host software issues (`44_host_sequences`). They are no operations of the block. A sequence whose operations
do not depend on a value read is a list of operations; the others are a `HostSeq`, which says what the host
issues next and how the value it reads goes on. `runHost` performs a sequence under any schedule of events
between its operations (`20_memory` R69). The host's own work between operations (storage, presence checks,
drawing) is out of scope (`00_scope` R5; log 12). -/

namespace Sys2Proof.Machine

open Sys2Proof

/-! ## Field constants (`30_encoding` R95) -/

/-- `EN = 1`. -/
def valEn : Word := 0x1#32
/-- `CLR = 2`. -/
def valClr : Word := 0x2#32
/-- `TONE = 0x100`. -/
def valTone : Word := 0x100#32
/-- `CAP_EN = 1`. -/
def valCapEn : Word := 0x1#32
/-- `PB_EN = 2`. -/
def valPbEn : Word := 0x2#32
/-- `DRAIN = 1`. -/
def valDrain : Word := 0x1#32
/-- `EDGE_CLR = 2`. -/
def valEdgeClr : Word := 0x2#32
/-- `SESSION_RESET = 4`. -/
def valSessionReset : Word := 0x4#32

/-! ## Register writes by unit -/

/-- `wr Uk_CTRL, w`. -/
def opWrCtrl (k : UnitId) (w : Word) : Instr :=
  match k with
  | .u1 => .wrU1Ctrl w
  | .u2 => .wrU2Ctrl w
  | .u3 => .wrU3Ctrl w
  | .u4 => .wrU4Ctrl w

/-- `wr Uk_PRESCALE, w`. -/
def opWrPrescale (k : UnitId) (w : Word) : Instr :=
  match k with
  | .u1 => .wrU1Prescale w
  | .u2 => .wrU2Prescale w
  | .u3 => .wrU3Prescale w
  | .u4 => .wrU4Prescale w

/-- The configuration writes of `unit_cfg` between the clear and the enable: role for k = 3, prescaler,
`MATCH0` but for k = 1, `MATCH1` for k = 3, 4 (R207). -/
def unitSettings (k : UnitId) (pre m0 m1 : Word) (tone : Bool) : List Instr :=
  match k with
  | .u1 => [opWrPrescale .u1 pre]
  | .u2 => [opWrPrescale .u2 pre, .wrU2Match0 m0]
  | .u3 => [.wrU3Role (if tone then valTone else 0), opWrPrescale .u3 pre, .wrU3Match0 m0,
      .wrU3Match1 m1]
  | .u4 => [opWrPrescale .u4 pre, .wrU4Match0 m0, .wrU4Match1 m1]

/-- `unit_cfg` without the last write: the unit is configured and disarmed (R206, `92` D28). -/
def unitSetup (k : UnitId) (pre m0 m1 : Word) (tone : Bool) : List Instr :=
  [opWrCtrl k 0, opWrCtrl k valClr] ++ unitSettings k pre m0 m1 tone

/-- `unit_cfg k, pre, m0, m1 [, tone]` (R207): disable, clear, configure, re-enable. -/
def unitCfg (k : UnitId) (pre m0 m1 : Word) (tone : Bool) : List Instr :=
  unitSetup k pre m0 m1 tone ++ [opWrCtrl k valEn]

/-- `boot_config` (R206): units 1, 3 and 4 configured and armed, unit 2 configured and left disarmed
(`92` D28), with the open values `CFG_k` (log 13). -/
def bootConfig : List Instr :=
  unitCfg .u1 (Config.bootPrescale .u1) 0 0 false
    ++ unitSetup .u2 (Config.bootPrescale .u2) (Config.bootMatch0 .u2) 0 false
    ++ unitCfg .u3 (Config.bootPrescale .u3) (Config.bootMatch0 .u3) (Config.bootMatch1 .u3) false
    ++ unitCfg .u4 (Config.bootPrescale .u4) (Config.bootMatch0 .u4) (Config.bootMatch1 .u4) false

/-! ## The values a sequence reads and tests -/

/-- The exit test of `wait n` on a value read from `TICK_CNT`: `v >= n` (R205, `92` D26). -/
def waitDone (n v : Word) : Bool := decide (n ≤ v)

/-- `PIPE_STAT.READY` of a value read (`10_state` R28). -/
def statReady (v : Word) : Nat := (v.extractLsb' 0 8).toNat

/-- `PIPE_STAT.PUT` of a value read (`10_state` R28). -/
def statPut (v : Word) : Nat := (v.extractLsb' 8 8).toNat

/-- `PIPE_STAT.FPE` of a value read (`10_state` R28). -/
def statFpe (v : Word) : Bool := v.getLsbD 31

/-- The oldest ready buffer as the consumer computes it (R209, `42_audio_pipeline` R183). -/
def oldestReady (bufCount : Nat) (stat : Word) : Nat :=
  (statPut stat + bufCount - statReady stat) % bufCount

/-- The 128 reads of one buffer (R209). -/
def readBuffer (b : Nat) : List Instr :=
  (List.range 128).map fun i => .rdBuf (BitVec.ofNat 16 (windowAddr b (4 * i)))

/-- What `drain_one` issues after its read of `PIPE_STAT` returned `stat` with buffers ready (R209). -/
def drainBuffer (bufCount : Nat) (stat : Word) : List Instr :=
  readBuffer (oldestReady bufCount stat) ++ [.wrPipeCmd valDrain]

/-- The takeover of unit 3: `unit_cfg 3, tone_pre, top, duty, tone = 1` (R208; log 13). -/
def toneTake (top duty : Word) : List Instr := unitCfg .u3 Config.tonePre top duty true

/-- The restore of unit 3: `unit_cfg 3, sp, s0, s1, tone = 0` (R208). -/
def toneRestore (sp s0 s1 : Word) : List Instr := unitCfg .u3 sp s0 s1 false

/-! ## Sequences that go on from what they read -/

/-- What remains of a host sequence. -/
inductive HostSeq where
  /-- Nothing: the sequence is over. -/
  | done
  /-- One operation whose value is not used, then the rest. -/
  | issue (op : Instr) (rest : HostSeq)
  /-- The polling loop of `wait n`, then the rest (R205). -/
  | waitPoll (n : Word) (rest : HostSeq)
  /-- `tone` from its read of `U3_PRESCALE` on (R208). -/
  | toneSavePrescale (top duty dur : Word)
  /-- `tone` from its read of `U3_MATCH0` on, the prescaler saved. -/
  | toneSaveMatch0 (sp top duty dur : Word)
  /-- `tone` from its read of `U3_MATCH1` on, the prescaler and `MATCH0` saved. -/
  | toneSaveMatch1 (sp s0 top duty dur : Word)
  /-- `drain_one` from its read of `PIPE_STAT` on, with `N` buffers; repeated for `drain_all` until that
  read finds none ready (R209, R210; log 18). -/
  | drainPoll (bufCount : Nat) (all : Bool)
  /-- `slow_poll_check` from its read of `SLOW_POLL` on (R211). -/
  | slowPoll
  /-- `frame_wait` from its read of `PIPE_STAT` on (R213). -/
  | framePoll
deriving DecidableEq, Repr

/-- Issue a list of operations, then the rest. -/
def HostSeq.issues (ops : List Instr) (rest : HostSeq) : HostSeq := ops.foldr .issue rest

/-- `wait n` (R205): clear the Tick Counter, then poll it. -/
def hostWait (n : Word) (rest : HostSeq) : HostSeq := .issue (.wrTickCnt 0) (.waitPoll n rest)

/-- `tone` from the takeover on: take unit 3, wait, restore it (R208). -/
def toneRun (sp s0 s1 top duty dur : Word) : HostSeq :=
  .issues (toneTake top duty) (hostWait dur (.issues (toneRestore sp s0 s1) .done))

/-- The operation a sequence issues next; none where it is over. -/
def HostSeq.op : HostSeq → Option Instr
  | .done => none
  | .issue op _ => some op
  | .waitPoll _ _ => some .rdTickCnt
  | .toneSavePrescale _ _ _ => some .rdU3Prescale
  | .toneSaveMatch0 _ _ _ _ => some .rdU3Match0
  | .toneSaveMatch1 _ _ _ _ _ => some .rdU3Match1
  | .drainPoll _ _ => some .rdPipeStat
  | .slowPoll => some .rdSlowPoll
  | .framePoll => some .rdPipeStat

/-- What remains after that operation, where it returned `v`. -/
def HostSeq.after (q : HostSeq) (v : Word) : HostSeq :=
  match q with
  | .done => .done
  | .issue _ rest => rest
  | .waitPoll n rest => if waitDone n v then rest else .waitPoll n rest
  | .toneSavePrescale top duty dur => .toneSaveMatch0 v top duty dur
  | .toneSaveMatch0 sp top duty dur => .toneSaveMatch1 sp v top duty dur
  | .toneSaveMatch1 sp s0 top duty dur => toneRun sp s0 v top duty dur
  | .drainPoll n all =>
    if statReady v = 0 then .done
    else .issues (drainBuffer n v) (if all then .drainPoll n true else .done)
  | .slowPoll => if v = 0 then .issue (.wrSlowPoll 0) .done else .done
  | .framePoll => if statFpe v then .issue (.wrPipeCmd valEdgeClr) .done else .done

/-- Perform a host sequence under a schedule: entry by entry, the entry's events and then the next
operation of the sequence. Answers the state and what remains of the sequence: `done` where it is over, the
rest of it where the schedule ended first (`20_memory` R69; log 12). -/
def runHost : List (List Instr) → HostSeq → State → Host.Outcome (State × HostSeq) Fault Refusal
  | [], q, s => .next (s, q)
  | events :: sched, q, s =>
    match q.op with
    | none => .next (s, q)
    | some op =>
      match runOps (events ++ [op]) s with
      | .next t => runHost sched (q.after (t.out.rdata.getD 0)) t
      | .fault f => .fault f
      | .refused r => .refused r

/-! ## The named sequences -/

/-- `tone top, duty, dur` (R208), saving unit 3's configuration by reading it. -/
def hostTone (top duty dur : Word) : HostSeq := .toneSavePrescale top duty dur

/-- `tone top, duty, dur` where the host restores the boot values `CFG_3` without reading (R208). -/
def hostToneFromBoot (top duty dur : Word) : HostSeq :=
  toneRun (Config.bootPrescale .u3) (Config.bootMatch0 .u3) (Config.bootMatch1 .u3) top duty dur

/-- The Tone Generator's call: `top` and `duty` by the open functions of frequency and volume (R208, `92`
D27; log 13). -/
def hostToneOf (freq volume : Nat) (dur : Word) : HostSeq :=
  hostTone (Config.toneTop freq) (Config.toneDuty freq volume) dur

/-- `drain_one` (R209), of a host that knows `N`. -/
def hostDrainOne (bufCount : Nat) : HostSeq := .drainPoll bufCount false

/-- `drain_all` (R210): `drain_one` again until its poll finds `READY = 0` (log 18). -/
def hostDrainAll (bufCount : Nat) : HostSeq := .drainPoll bufCount true

/-- `slow_poll_check` (R211): read the countdown, reload it where it is 0. -/
def hostSlowPollCheck : HostSeq := .slowPoll

/-- `frame_wait` (R213): read `PIPE_STAT`, clear the edge where it is set. -/
def hostFrameWait : HostSeq := .framePoll

/-- `set_brightness v` (R214). -/
def setBrightness (v : Word) : Instr := .wrU4Match1 v

/-! ## Sessions (R215) -/

/-- `start_capture`. -/
def startCapture : List Instr := [.wrPipeCmd valSessionReset, .wrPipeCtrl valCapEn]

/-- `stop_capture`. -/
def stopCapture : List Instr := [.wrPipeCtrl 0]

/-- `start_playback`. -/
def startPlayback : List Instr := [.wrPipeCmd valSessionReset, .wrPipeCtrl valPbEn]

/-- `stop_playback`. -/
def stopPlayback : List Instr := [.wrPipeCtrl 0]

end Sys2Proof.Machine
end

