-- ==== Sys2Proof/Machine/Outputs.lean ====
section
/-! DEFINITION. The output levels of the block: functions of the current state, re-evaluated after every
operation (`00_scope` R13, `70_reset_and_hazards` R269). The pulse `adc_trigger` is an event of the `CLK`
operation and stands in `State.out`. -/

namespace Sys2Proof.Machine

open Sys2Proof

/-- Output `clk_out`: the stored bit while unit 2 is armed, 0 while it is disarmed (`41_timer_units` R135 with
its decision `92` D13). The bit itself is held while disarmed (R135, R121), so that arming unit 2 again without
`CLR` shows it again. DEDUCED: how R135 and D13 are read together (log 17). -/
def clkOutLevel (s : State) : Bool := s.u2.en && s.clkOut

/-- Output `tone_pwm` (`41_timer_units` R139). -/
def tonePwm (s : State) : Bool := s.u3.en && s.u3Tone && decide (s.u3Match1 ≤ s.u3.count)

/-- Output `bl_pwm` (`41_timer_units` R141). -/
def blPwm (s : State) : Bool := s.u4.en && decide (s.u4Match1 ≤ s.u4.count)

/-- Output `frame_edge` (`43_frame_pacing` R198). -/
def frameEdge (s : State) : Bool := s.fpe

/-- Output `buf_ready` (`42_audio_pipeline` R178). -/
def bufReady (s : State) : Bool := decide (s.readyCount ≠ 0)

end Sys2Proof.Machine
end

