-- ==== Sys2Proof/Safety.lean ====
section
/-! DEFINITION. What counts as a good state and a safe operation, and the bookkeeping the claims of
`42_audio_pipeline` R183, R185 speak of, none of which is state of the block. -/

namespace Sys2Proof.Machine

open Sys2Proof

/-- The invariants of `10_state` R45, with the parameters' bounds (`00_scope` R6) and the form of the
pool (log 10) they rest on. `fill_offset` and `pb_div` are in 0 to 511 by their width. -/
structure Inv (s : State) : Prop where
  /-- The parameters are ones `00_scope` R6 allows. -/
  cfgWf : s.cfg.wf
  /-- `tick_cnt <= TICK_MAX`. -/
  tickLe : s.tickCnt ≤ s.cfg.tickMax
  /-- `slow_poll <= SP_PERIOD`. -/
  slowLe : s.slowPoll ≤ s.cfg.spPeriod
  /-- `put_index <= N-1`. -/
  putLt : s.putIndex.toNat < s.cfg.bufCount
  /-- `ready_count <= N-1`. -/
  readyLt : s.readyCount.toNat < s.cfg.bufCount
  /-- Not both sources. -/
  oneSource : ¬ (s.capEn = true ∧ s.pbEn = true)
  /-- Not the tone role and a source. -/
  toneNoSource : ¬ (s.u3Tone = true ∧ s.srcOn = true)
  /-- The pool's addresses rise. -/
  poolWf : s.pool.wf
  /-- Every written byte lies in one of the `N` buffers (`20_memory` R62). -/
  poolInWindow : ∀ c ∈ s.pool, 0x8000 ≤ c.1 ∧ c.1 < 0x8000 + 512 * s.cfg.bufCount

/-- An outcome with a next state: nothing undefined was done. -/
def Completes (o : Host.Outcome State Fault Refusal) : Prop := ∃ t, o = .next t

/-- The model fault an operation raises in a state, if any, read off `60_exceptions` R227, R228, R229
and R234 alone; every other operation never faults (R226). -/
def faultOf (i : Instr) (s : State) : Option Fault :=
  match i with
  | .rdTickCnt => none
  | .rdSlowPoll => none
  | .rdPipeCtrl => none
  | .rdPipeCmd => none
  | .rdPipeStat => none
  | .rdPeak => none
  | .rdOverrun => none
  | .rdMissed => none
  | .rdPbDiv => none
  | .rdU1Ctrl => none
  | .rdU1Prescale => none
  | .rdU1Match0 => none
  | .rdU1Match1 => none
  | .rdU1Count => none
  | .rdU1Role => none
  | .rdU2Ctrl => none
  | .rdU2Prescale => none
  | .rdU2Match0 => none
  | .rdU2Match1 => none
  | .rdU2Count => none
  | .rdU2Role => none
  | .rdU3Ctrl => none
  | .rdU3Prescale => none
  | .rdU3Match0 => none
  | .rdU3Match1 => none
  | .rdU3Count => none
  | .rdU3Role => none
  | .rdU4Ctrl => none
  | .rdU4Prescale => none
  | .rdU4Match0 => none
  | .rdU4Match1 => none
  | .rdU4Count => none
  | .rdU4Role => none
  | .rdBuf _ => none
  | .rdReserved _ => none
  | .wrTickCnt _ => none
  | .wrSlowPoll _ => none
  | .wrPipeCtrl w =>
      if w.getLsbD 0 = true ∧ w.getLsbD 1 = true then some (.bothSourcesEnabled w)
      else if (w.getLsbD 0 = true ∨ w.getLsbD 1 = true) ∧ s.u3Tone = true then
        some (.toneDuringCapture 0x0010#16 w s.capEn s.pbEn)
      else none
  | .wrPipeCmd _ => none
  | .wrU1Ctrl _ => none
  | .wrU1Prescale w => if s.u1.en then some (.reconfigWhileArmed .u1 0x04#5 w) else none
  | .wrU1Match0 _ => none
  | .wrU1Match1 _ => none
  | .wrU1Role _ => none
  | .wrU2Ctrl _ => none
  | .wrU2Prescale w => if s.u2.en then some (.reconfigWhileArmed .u2 0x04#5 w) else none
  | .wrU2Match0 w => if s.u2.en then some (.reconfigWhileArmed .u2 0x08#5 w) else none
  | .wrU2Match1 _ => none
  | .wrU2Role _ => none
  | .wrU3Ctrl w =>
      if (s.capEn = true ∨ s.pbEn = true) ∧
          (w.getLsbD 1 = true ∨ (s.u3.en = true ∧ w.getLsbD 0 = false)) then
        some (.toneDuringCapture 0x0080#16 w s.capEn s.pbEn)
      else none
  | .wrU3Prescale w => if s.u3.en then some (.reconfigWhileArmed .u3 0x04#5 w) else none
  | .wrU3Match0 w => if s.u3.en then some (.reconfigWhileArmed .u3 0x08#5 w) else none
  | .wrU3Match1 w => if s.u3.en then some (.reconfigWhileArmed .u3 0x0C#5 w) else none
  | .wrU3Role w =>
      if s.u3.en = true ∧ w.getLsbD 8 ≠ s.u3Tone then some (.reconfigWhileArmed .u3 0x14#5 w)
      else if w.getLsbD 8 = true ∧ s.u3Tone = false ∧ (s.capEn = true ∨ s.pbEn = true) then
        some (.toneDuringCapture 0x0094#16 w s.capEn s.pbEn)
      else none
  | .wrU4Ctrl _ => none
  | .wrU4Prescale w => if s.u4.en then some (.reconfigWhileArmed .u4 0x04#5 w) else none
  | .wrU4Match0 w => if s.u4.en then some (.reconfigWhileArmed .u4 0x08#5 w) else none
  | .wrU4Match1 _ => none
  | .wrU4Role _ => none
  | .wrBuf _ _ => none
  | .wrReserved _ _ => none
  | .evtReset => none
  | .evtClk => none
  | .evtTick => none
  | .evtAdcDone _ => none
  | .evtReserved _ => none
  | .opReserved _ => none

/-- Whether an operation is the host command `SESSION_RESET` (`10_state` R27). -/
def isSessionReset : Instr → Bool
  | .rdTickCnt => false
  | .rdSlowPoll => false
  | .rdPipeCtrl => false
  | .rdPipeCmd => false
  | .rdPipeStat => false
  | .rdPeak => false
  | .rdOverrun => false
  | .rdMissed => false
  | .rdPbDiv => false
  | .rdU1Ctrl => false
  | .rdU1Prescale => false
  | .rdU1Match0 => false
  | .rdU1Match1 => false
  | .rdU1Count => false
  | .rdU1Role => false
  | .rdU2Ctrl => false
  | .rdU2Prescale => false
  | .rdU2Match0 => false
  | .rdU2Match1 => false
  | .rdU2Count => false
  | .rdU2Role => false
  | .rdU3Ctrl => false
  | .rdU3Prescale => false
  | .rdU3Match0 => false
  | .rdU3Match1 => false
  | .rdU3Count => false
  | .rdU3Role => false
  | .rdU4Ctrl => false
  | .rdU4Prescale => false
  | .rdU4Match0 => false
  | .rdU4Match1 => false
  | .rdU4Count => false
  | .rdU4Role => false
  | .rdBuf _ => false
  | .rdReserved _ => false
  | .wrTickCnt _ => false
  | .wrSlowPoll _ => false
  | .wrPipeCtrl _ => false
  | .wrPipeCmd w => w.getLsbD 2
  | .wrU1Ctrl _ => false
  | .wrU1Prescale _ => false
  | .wrU1Match0 _ => false
  | .wrU1Match1 _ => false
  | .wrU1Role _ => false
  | .wrU2Ctrl _ => false
  | .wrU2Prescale _ => false
  | .wrU2Match0 _ => false
  | .wrU2Match1 _ => false
  | .wrU2Role _ => false
  | .wrU3Ctrl _ => false
  | .wrU3Prescale _ => false
  | .wrU3Match0 _ => false
  | .wrU3Match1 _ => false
  | .wrU3Role _ => false
  | .wrU4Ctrl _ => false
  | .wrU4Prescale _ => false
  | .wrU4Match0 _ => false
  | .wrU4Match1 _ => false
  | .wrU4Role _ => false
  | .wrBuf _ _ => false
  | .wrReserved _ _ => false
  | .evtReset => false
  | .evtClk => false
  | .evtTick => false
  | .evtAdcDone _ => false
  | .evtReserved _ => false
  | .opReserved _ => false

/-! ## Bookkeeping of the pipeline -/

/-- What `42_audio_pipeline` R185 counts along a run. -/
structure Tally where
  /-- Performed `ADC_DONE` operations. -/
  conversions : Nat
  /-- Those that found `fill_offset = 511`. -/
  completions : Nat
  /-- `DRAIN`s that found `ready_count > 0`. -/
  drains : Nat
deriving DecidableEq, Repr

/-- Count one operation performed in a state (R185). -/
def tallyOp (i : Instr) (s : State) (c : Tally) : Tally :=
  match i with
  | .rdTickCnt => c
  | .rdSlowPoll => c
  | .rdPipeCtrl => c
  | .rdPipeCmd => c
  | .rdPipeStat => c
  | .rdPeak => c
  | .rdOverrun => c
  | .rdMissed => c
  | .rdPbDiv => c
  | .rdU1Ctrl => c
  | .rdU1Prescale => c
  | .rdU1Match0 => c
  | .rdU1Match1 => c
  | .rdU1Count => c
  | .rdU1Role => c
  | .rdU2Ctrl => c
  | .rdU2Prescale => c
  | .rdU2Match0 => c
  | .rdU2Match1 => c
  | .rdU2Count => c
  | .rdU2Role => c
  | .rdU3Ctrl => c
  | .rdU3Prescale => c
  | .rdU3Match0 => c
  | .rdU3Match1 => c
  | .rdU3Count => c
  | .rdU3Role => c
  | .rdU4Ctrl => c
  | .rdU4Prescale => c
  | .rdU4Match0 => c
  | .rdU4Match1 => c
  | .rdU4Count => c
  | .rdU4Role => c
  | .rdBuf _ => c
  | .rdReserved _ => c
  | .wrTickCnt _ => c
  | .wrSlowPoll _ => c
  | .wrPipeCtrl _ => c
  | .wrPipeCmd w =>
      if w.getLsbD 0 = true ∧ s.readyCount ≠ 0 then { c with drains := c.drains + 1 } else c
  | .wrU1Ctrl _ => c
  | .wrU1Prescale _ => c
  | .wrU1Match0 _ => c
  | .wrU1Match1 _ => c
  | .wrU1Role _ => c
  | .wrU2Ctrl _ => c
  | .wrU2Prescale _ => c
  | .wrU2Match0 _ => c
  | .wrU2Match1 _ => c
  | .wrU2Role _ => c
  | .wrU3Ctrl _ => c
  | .wrU3Prescale _ => c
  | .wrU3Match0 _ => c
  | .wrU3Match1 _ => c
  | .wrU3Role _ => c
  | .wrU4Ctrl _ => c
  | .wrU4Prescale _ => c
  | .wrU4Match0 _ => c
  | .wrU4Match1 _ => c
  | .wrU4Role _ => c
  | .wrBuf _ _ => c
  | .wrReserved _ _ => c
  | .evtReset => c
  | .evtClk => c
  | .evtTick => c
  | .evtAdcDone _ =>
      if s.capEn then
        { c with
          conversions := c.conversions + 1
          completions := if s.fillOffset = 511#9 then c.completions + 1 else c.completions }
      else c
  | .evtReserved _ => c
  | .opReserved _ => c

/-- Perform operations and count along the way; nothing where the run faults (R185). -/
def runTally : List Instr → State → Tally → Option (State × Tally)
  | [], s, c => some (s, c)
  | i :: is, s, c =>
    match exec i s with
    | .next t => runTally is t (tallyOp i s c)
    | .fault _ => none
    | .refused _ => none

/-- The buffers completed and not yet drained, oldest first, as `42_audio_pipeline` R183 computes them
from the state. -/
def readyBuffers (s : State) : List Nat :=
  (List.range s.readyCount.toNat).map fun i =>
    (s.putIndex.toNat + s.cfg.bufCount - s.readyCount.toNat + i) % s.cfg.bufCount

/-- The same queue kept by an observer that knows no indices but the one just completed: a completion
appends it, dropping the oldest where `N-1` are ready; a `DRAIN` takes the oldest; a performed
`SESSION_RESET` and `RESET` empty it (`42_audio_pipeline` R167, R168, R172, R173, R183). -/
def queueOp (i : Instr) (s : State) (q : List Nat) : List Nat :=
  match i with
  | .rdTickCnt => q
  | .rdSlowPoll => q
  | .rdPipeCtrl => q
  | .rdPipeCmd => q
  | .rdPipeStat => q
  | .rdPeak => q
  | .rdOverrun => q
  | .rdMissed => q
  | .rdPbDiv => q
  | .rdU1Ctrl => q
  | .rdU1Prescale => q
  | .rdU1Match0 => q
  | .rdU1Match1 => q
  | .rdU1Count => q
  | .rdU1Role => q
  | .rdU2Ctrl => q
  | .rdU2Prescale => q
  | .rdU2Match0 => q
  | .rdU2Match1 => q
  | .rdU2Count => q
  | .rdU2Role => q
  | .rdU3Ctrl => q
  | .rdU3Prescale => q
  | .rdU3Match0 => q
  | .rdU3Match1 => q
  | .rdU3Count => q
  | .rdU3Role => q
  | .rdU4Ctrl => q
  | .rdU4Prescale => q
  | .rdU4Match0 => q
  | .rdU4Match1 => q
  | .rdU4Count => q
  | .rdU4Role => q
  | .rdBuf _ => q
  | .rdReserved _ => q
  | .wrTickCnt _ => q
  | .wrSlowPoll _ => q
  | .wrPipeCtrl _ => q
  | .wrPipeCmd w =>
      if w.getLsbD 2 = true ∧ s.capEn = false ∧ s.pbEn = false then []
      else if w.getLsbD 0 = true then q.tail
      else q
  | .wrU1Ctrl _ => q
  | .wrU1Prescale _ => q
  | .wrU1Match0 _ => q
  | .wrU1Match1 _ => q
  | .wrU1Role _ => q
  | .wrU2Ctrl _ => q
  | .wrU2Prescale _ => q
  | .wrU2Match0 _ => q
  | .wrU2Match1 _ => q
  | .wrU2Role _ => q
  | .wrU3Ctrl _ => q
  | .wrU3Prescale _ => q
  | .wrU3Match0 _ => q
  | .wrU3Match1 _ => q
  | .wrU3Role _ => q
  | .wrU4Ctrl _ => q
  | .wrU4Prescale _ => q
  | .wrU4Match0 _ => q
  | .wrU4Match1 _ => q
  | .wrU4Role _ => q
  | .wrBuf _ _ => q
  | .wrReserved _ _ => q
  | .evtReset => []
  | .evtClk => q
  | .evtTick => q
  | .evtAdcDone _ =>
      if s.capEn = true ∧ s.fillOffset = 511#9 then
        (if q.length < s.cfg.bufCount - 1 then q else q.tail) ++ [s.putIndex.toNat]
      else q
  | .evtReserved _ => q
  | .opReserved _ => q

/-! ## What the rules say of one register access and of one clock period, as claims speak of them -/

/-- `i` is the `RD` of the register at `a`, whatever the ignored `data` bits are (`30_encoding` R81), and it
returns `v` of the state and changes nothing: the template of every register-read rule. -/
def ReadOf (i : Instr) (a : Addr) (v : State → Word) : Prop :=
  (∀ data : Word, decode (mkOpWord 0b00#2 a data) = i) ∧
    ∀ s : State, exec i s = .next { s with out := { rdata := some (v s), adcTrigger := false } }

/-- The `WR` words of the register at `a` stand for `i` of their data (`30_encoding` R82). -/
def WriteAt (i : Word → Instr) (a : Addr) : Prop :=
  ∀ wdata : Word, decode (mkOpWord 0b01#2 a wdata) = i wdata

/-- One more, staying at `2^32-1`: how `overrun_count` and `missed_count` go up (`00_scope` R10(2)). -/
def bump (v : Word) : Word := if v = 0xFFFFFFFF#32 then v else v + 1

/-- A unit without a match register after one `CLK` (`41_timer_units` R121, R122, R124). -/
def runFree (u : TimerUnit) : TimerUnit :=
  if u.en = false then u
  else if u.prescale ≤ u.psc then { u with psc := 0, count := u.count + 1 }
  else { u with psc := u.psc + 1 }

/-- A unit with match value `m` after one `CLK` (`41_timer_units` R121, R122, R123). -/
def runToMatch (m : Word) (u : TimerUnit) : TimerUnit :=
  if u.en = false then u
  else if u.prescale ≤ u.psc then
    { u with psc := 0, count := if m ≤ u.count then 0 else u.count + 1 }
  else { u with psc := u.psc + 1 }

/-- Whether a `CLK` is a match of a unit with match value `m` (`41_timer_units` R122, R123). -/
def matchesNow (m : Word) (u : TimerUnit) : Bool :=
  u.en && decide (u.prescale ≤ u.psc) && decide (m ≤ u.count)

/-- A unit right after it was cleared and armed (`41_timer_units` R129). -/
def Fresh (u : TimerUnit) : Prop := u.en = true ∧ u.count = 0 ∧ u.psc = 0

end Sys2Proof.Machine
end

