-- ==== Sys2Proof/Certificates/Slice0/Obligations.lean ====
section
/-! DEFINITION. The statements for the provers, from the numbered rules of spec/. Each docstring names the
rules it formalises. Equations of the form `exec i s = .next { s with … }` say the result, the frame
(every field not named is unchanged, the pool's bytes among them) and that the operation completes. -/

open Sys2Proof Sys2Proof.Machine

/-! ## Steps and encoding -/

/-- A step performs the operation its trace presents next, whole, and takes it from the trace
(`20_memory` R66, R69; log 1). -/
def Obligations.StepPerformsDecodedOperation : Prop :=
  ∀ (s : State) (w : OpWord) (rest : List OpWord) (i : Instr),
    s.trace = w :: rest → decode w = i → step s = exec i { s with trace := rest }

/-- A step with nothing presented ends the run: the model's choice for the end of a trace (log 2,
`70_reset_and_hazards` R269). -/
def Obligations.EmptyTraceEndsRun : Prop :=
  ∀ s : State, s.trace = [] → step s = .fault .traceEnded

/-- Presenting the words of well-formed operations and stepping once for each is performing the
operations in order (`20_memory` R69, `30_encoding` R80). -/
def Obligations.TraceOfWordsRunsOperations : Prop :=
  ∀ (is : List Instr) (rest : List OpWord) (s : State), (∀ i ∈ is, i.wellFormed = true) →
    Host.Core.run Sys2Proof.core is.length { s with trace := is.map encode ++ rest }
      = runOps is { s with trace := rest }

/-- The decoding examples of `95_test_vectors` 2.5, words of `30_encoding` R80, R85, R90. -/
def Obligations.SampleWordsDecode : Prop :=
  decode 0x1001400000001#50 = .wrPipeCmd 1 ∧
    decode 0x0009000000000#50 = .rdU3Count ∧
    decode 0x20003000003FF#50 = .evtAdcDone 0x3FF ∧
    decode 0x0840000000000#50 = .rdBuf 0x8400 ∧
    decode 0x20001DEADBEEF#50 = .evtClk ∧
    decode 0x0004100000000#50 = .rdReserved 0x0041 ∧
    decode 0x1001100000002#50 = .wrReserved 0x0011 2 ∧
    decode 0x2000400000000#50 = .evtReserved 4 ∧
    decode 0x3FFFFFFFFFFFF#50 = .opReserved 0xFFFF

/-- Decoding the word of any well-formed operation gives it back, with every operand (`30_encoding` R80
to R84). -/
def Obligations.DecodeEncodeRoundTrip : Prop :=
  ∀ i : Instr, i.wellFormed = true → decode (encode i) = i

/-- Every word decodes to a well-formed operation, and encoding gives a word back whose ignored bits are
zero (`30_encoding` R80, R84). -/
def Obligations.EncodeDecodeRoundTrip : Prop :=
  ∀ w : OpWord, (decode w).wellFormed = true ∧ (w.wellFormed = true → encode (decode w) = w)

/-- The decoder is the opcode table: the first row, in table order, whose mask and pattern a word meets
is the row of the operation it decodes to (`30_encoding` R84, R90). -/
def Obligations.DecodeFollowsOpcodeTable : Prop :=
  ∀ w : OpWord, (firstRow w).map (·.mnemonic) = some (decode w).mnemonic

/-! ## Tick Service -/

/-- `EVT.TICK`: `tick_cnt` saturates at `TICK_MAX`, `slow_poll` floors at 0, nothing else changes, in
every state (`40_tick_service` R100). -/
def Obligations.TickEvent : Prop :=
  (∀ data : Word, decode (mkOpWord 0b10#2 0x0002#16 data) = .evtTick) ∧
    ∀ s : State, exec .evtTick s = .next { s with
      tickCnt := if s.tickCnt.toNat < s.cfg.tickMax.toNat then s.tickCnt + 1 else s.tickCnt
      slowPoll := if s.slowPoll = 0 then 0 else s.slowPoll - 1
      out := { rdata := none, adcTrigger := false } }

/-- The host's side of the Tick Service: reads return the counters; a write of any data clears
`tick_cnt`, or loads `SP_PERIOD` into `slow_poll` (`40_tick_service` R101 to R104). -/
def Obligations.TickServiceHostAccess : Prop :=
  ReadOf .rdTickCnt 0x0000#16 (fun s => s.tickCnt) ∧
    ReadOf .rdSlowPoll 0x0004#16 (fun s => s.slowPoll) ∧
    WriteAt .wrTickCnt 0x0000#16 ∧
    WriteAt .wrSlowPoll 0x0004#16 ∧
    ∀ (w : Word) (s : State),
      exec (.wrTickCnt w) s =
        .next { s with tickCnt := 0, out := { rdata := none, adcTrigger := false } } ∧
      exec (.wrSlowPoll w) s =
        .next { s with slowPoll := s.cfg.spPeriod, out := { rdata := none, adcTrigger := false } }

/-- After a clear and any operations with `n` `TICK`s and no further clear or `RESET`,
`tick_cnt = min(n, TICK_MAX)`; after a reload likewise `slow_poll = SP_PERIOD - min(n, SP_PERIOD)`
(`40_tick_service` R105 (1), (2)). -/
def Obligations.TickCountsAfterClearAndReload : Prop :=
  ∀ (w : Word) (is : List Instr) (s t : State), Instr.evtReset ∉ is →
    ((∀ v, Instr.wrTickCnt v ∉ is) → runOps (.wrTickCnt w :: is) s = .next t →
      t.tickCnt.toNat = min (is.count .evtTick) s.cfg.tickMax.toNat) ∧
    ((∀ v, Instr.wrSlowPoll v ∉ is) → runOps (.wrSlowPoll w :: is) s = .next t →
      t.slowPoll.toNat = s.cfg.spPeriod.toNat - min (is.count .evtTick) s.cfg.spPeriod.toNat)

/-- The two counters are independent of the rest of the block: no operation but `TICK`, the two commands
and `RESET` writes them, and no operation but their own two reads lets their values influence anything
else (`40_tick_service` R105 (4)). -/
def Obligations.TickServiceIndependent : Prop :=
  ∀ (i : Instr) (s t : State), exec i s = .next t →
    (i ≠ .evtReset → i ≠ .evtTick → (∀ w, i ≠ .wrTickCnt w) → t.tickCnt = s.tickCnt) ∧
      (i ≠ .evtReset → i ≠ .evtTick → (∀ w, i ≠ .wrSlowPoll w) → t.slowPoll = s.slowPoll) ∧
      (i ≠ .rdTickCnt → i ≠ .rdSlowPoll → ∀ a b : Word, ∃ t',
        exec i { s with tickCnt := a, slowPoll := b } = .next t' ∧
        t' = { t with tickCnt := t'.tickCnt, slowPoll := t'.slowPoll })

/-- The busy-wait: under any schedule of events, `wait n` with `n <= TICK_MAX` is over by the time `n`
`TICK`s were delivered after its first write, and with `n > TICK_MAX` it never is
(`44_host_sequences` R205). -/
def Obligations.BusyWaitEndsAfterEnoughTicks : Prop :=
  ∀ (n : Word) (first : List Instr) (sched : List (List Instr)) (s : State),
    (∀ events ∈ first :: sched, ∀ i ∈ events, i.opClass = .evt ∧ i ≠ .evtReset) → sched ≠ [] →
    (n.toNat ≤ s.cfg.tickMax.toNat → n.toNat ≤ sched.flatten.count .evtTick →
      ∃ t, runHost (first :: sched) (hostWait n .done) s = .next (t, .done)) ∧
    (s.cfg.tickMax.toNat < n.toNat →
      ∃ t, runHost (first :: sched) (hostWait n .done) s = .next (t, .waitPoll n .done))

/-! ## Timer units -/

/-- `EVT.CLK`: every armed unit advances by its prescaler; units 2 to 4 reset at their match; unit 2's
match toggles `clk_out`; unit 3's match in the sample role emits `adc_trigger` in live mode and steps the
pacing divider in playback; nothing else changes (`41_timer_units` R121 to R128, `43_frame_pacing` R190,
R192). -/
def Obligations.ClkAdvancesTheUnits : Prop :=
  (∀ data : Word, decode (mkOpWord 0b10#2 0x0001#16 data) = .evtClk) ∧
    ∀ (s : State) (edge3 pace set : Bool),
      edge3 = (matchesNow s.u3Match0 s.u3 && !s.u3Tone) →
      pace = (edge3 && s.pbEn) →
      set = (pace && decide (s.pbDiv = 511#9)) →
      exec .evtClk s = .next { s with
        u1 := runFree s.u1
        u2 := runToMatch s.u2Match0 s.u2
        u3 := runToMatch s.u3Match0 s.u3
        u4 := runToMatch s.u4Match0 s.u4
        clkOut := if matchesNow s.u2Match0 s.u2 then !s.clkOut else s.clkOut
        pbDiv := if set then 0 else if pace then s.pbDiv + 1 else s.pbDiv
        fpe := s.fpe || set
        missedCount := if set && s.fpe then bump s.missedCount else s.missedCount
        out := { rdata := none, adcTrigger := edge3 && s.capEn } }

/-- The units share no state: `CLK` may take them in any order (`41_timer_units` R121). -/
def Obligations.ClkUnitOrderUnobservable : Prop :=
  ∀ (s : State) (ks : List UnitId), ks.Perm [.u1, .u2, .u3, .u4] →
    exec .evtClk s =
      .next (ks.foldl (fun t k => clockUnit k t) { s with
        out := { rdata := none, adcTrigger := false } })

/-- The counting period of every unit from clear and arm: after `n` `CLK`s the prescale counter is
`n mod (p+1)` and `COUNT` is the number of counts, modulo `m+1` for units 2 to 4 and modulo `2^32` for
unit 1 (`41_timer_units` R129). -/
def Obligations.UnitCountingPeriods : Prop :=
  ∀ (n : Nat) (s : State), ∃ t, runOps (List.replicate n .evtClk) s = .next t ∧
    (Fresh s.u1 →
      t.u1.psc.toNat = n % (s.u1.prescale.toNat + 1) ∧
      t.u1.count.toNat = n / (s.u1.prescale.toNat + 1) % 2 ^ 32) ∧
    (Fresh s.u2 →
      t.u2.psc.toNat = n % (s.u2.prescale.toNat + 1) ∧
      t.u2.count.toNat = n / (s.u2.prescale.toNat + 1) % (s.u2Match0.toNat + 1)) ∧
    (Fresh s.u3 →
      t.u3.psc.toNat = n % (s.u3.prescale.toNat + 1) ∧
      t.u3.count.toNat = n / (s.u3.prescale.toNat + 1) % (s.u3Match0.toNat + 1)) ∧
    (Fresh s.u4 →
      t.u4.psc.toNat = n % (s.u4.prescale.toNat + 1) ∧
      t.u4.count.toNat = n / (s.u4.prescale.toNat + 1) % (s.u4Match0.toNat + 1))

/-- From clear and arm, `clk_out` toggles at the `CLK`s numbered by the multiples of unit 2's period, so
both levels last one period; and in live mode the `n`-th `CLK` emits `adc_trigger` exactly when `n` is a
multiple of the sample period, and never in the tone role (`41_timer_units` R125, R126, R127, R129,
R137). The output is the stored bit while unit 2 is armed; disarmed, the bit is held and the output is 0; and
a write of `U2_CTRL` that arms without `CLR` shows the bit. That is the model's reading of R135 together with
`92` D13 (log 17). -/
def Obligations.ClockOutAndTriggerPeriods : Prop :=
  (∀ (w : Word) (s : State), ∃ t, exec (.wrU2Ctrl w) s = .next t ∧
    clkOutLevel t = (w.getLsbD 0 && !w.getLsbD 1 && s.clkOut)) ∧
  ∀ (n : Nat) (s : State), ∃ t, runOps (List.replicate n .evtClk) s = .next t ∧
    (s.u2.en = true → clkOutLevel t = t.clkOut) ∧
    (s.u2.en = false → t.clkOut = s.clkOut ∧ clkOutLevel t = false) ∧
    (Fresh s.u2 →
      t.clkOut = (s.clkOut ^^
        decide (n / ((s.u2.prescale.toNat + 1) * (s.u2Match0.toNat + 1)) % 2 = 1))) ∧
    (Fresh s.u3 → 1 ≤ n →
      t.out.adcTrigger = (s.capEn && !s.u3Tone &&
        decide (n % ((s.u3.prescale.toNat + 1) * (s.u3Match0.toNat + 1)) = 0)))

/-- The playback cadence: with the playback source selected and unit 3 fresh in its sample role, after
`n` `CLK`s with no clear in between `k = n / period` sample periods have passed, `pb_div` stands at
`k` further modulo 512, and the edge was set once for every 512: the first set raises it, each set that
finds it raised counts one missed frame, below saturation (`43_frame_pacing` R190, R192, R194, R196). -/
def Obligations.PlaybackPacingCadence : Prop :=
  ∀ (n k sets : Nat) (s : State), s.pbEn = true → s.u3Tone = false → Fresh s.u3 →
    k = n / ((s.u3.prescale.toNat + 1) * (s.u3Match0.toNat + 1)) →
    sets = (s.pbDiv.toNat + k) / 512 →
    ∃ t, runOps (List.replicate n .evtClk) s = .next t ∧
      t.pbDiv.toNat = (s.pbDiv.toNat + k) % 512 ∧
      t.fpe = (s.fpe || decide (1 ≤ sets)) ∧
      t.missedCount.toNat =
        min (s.missedCount.toNat + (sets - if s.fpe then 0 else 1)) (2 ^ 32 - 1)

/-- Register reads of the units: `CTRL`, `PRESCALE`, `MATCH0`, `MATCH1`, `COUNT`, `ROLE` of units 1 to 4
(`41_timer_units` R138, R140, R142 to R145). -/
def Obligations.UnitRegisterReads : Prop :=
  (ReadOf .rdU1Ctrl 0x0040#16 (fun s => if s.u1.en then 1 else 0) ∧
    ReadOf .rdU2Ctrl 0x0060#16 (fun s => if s.u2.en then 1 else 0) ∧
    ReadOf .rdU3Ctrl 0x0080#16 (fun s => if s.u3.en then 1 else 0) ∧
    ReadOf .rdU4Ctrl 0x00A0#16 (fun s => if s.u4.en then 1 else 0)) ∧
  (ReadOf .rdU1Prescale 0x0044#16 (fun s => s.u1.prescale) ∧
    ReadOf .rdU2Prescale 0x0064#16 (fun s => s.u2.prescale) ∧
    ReadOf .rdU3Prescale 0x0084#16 (fun s => s.u3.prescale) ∧
    ReadOf .rdU4Prescale 0x00A4#16 (fun s => s.u4.prescale)) ∧
  (ReadOf .rdU1Match0 0x0048#16 (fun _ => 0) ∧
    ReadOf .rdU2Match0 0x0068#16 (fun s => s.u2Match0) ∧
    ReadOf .rdU3Match0 0x0088#16 (fun s => s.u3Match0) ∧
    ReadOf .rdU4Match0 0x00A8#16 (fun s => s.u4Match0)) ∧
  (ReadOf .rdU1Match1 0x004C#16 (fun _ => 0) ∧
    ReadOf .rdU2Match1 0x006C#16 (fun _ => 0) ∧
    ReadOf .rdU3Match1 0x008C#16 (fun s => s.u3Match1) ∧
    ReadOf .rdU4Match1 0x00AC#16 (fun s => s.u4Match1)) ∧
  (ReadOf .rdU1Count 0x0050#16 (fun s => s.u1.count) ∧
    ReadOf .rdU2Count 0x0070#16 (fun s => s.u2.count) ∧
    ReadOf .rdU3Count 0x0090#16 (fun s => s.u3.count) ∧
    ReadOf .rdU4Count 0x00B0#16 (fun s => s.u4.count)) ∧
  (ReadOf .rdU1Role 0x0054#16 (fun _ => 0) ∧
    ReadOf .rdU2Role 0x0074#16 (fun _ => 1) ∧
    ReadOf .rdU3Role 0x0094#16 (fun s => if s.u3Tone then 0x102 else 2) ∧
    ReadOf .rdU4Role 0x00B4#16 (fun _ => 3))

/-- `WR.Uk_CTRL`, k = 1, 2, 4: `CLR` clears `COUNT` and `PSC` (and `clk_out` for unit 2), then `EN` arms
or disarms; never a fault (`41_timer_units` R130). -/
def Obligations.WriteCtrlOfUnits124 : Prop :=
  WriteAt .wrU1Ctrl 0x0040#16 ∧ WriteAt .wrU2Ctrl 0x0060#16 ∧ WriteAt .wrU4Ctrl 0x00A0#16 ∧
    ∀ (w : Word) (s : State),
      exec (.wrU1Ctrl w) s = .next { s with
        u1 := { s.u1 with
          en := w.getLsbD 0
          count := if w.getLsbD 1 then 0 else s.u1.count
          psc := if w.getLsbD 1 then 0 else s.u1.psc }
        out := { rdata := none, adcTrigger := false } } ∧
      exec (.wrU2Ctrl w) s = .next { s with
        u2 := { s.u2 with
          en := w.getLsbD 0
          count := if w.getLsbD 1 then 0 else s.u2.count
          psc := if w.getLsbD 1 then 0 else s.u2.psc }
        clkOut := if w.getLsbD 1 then false else s.clkOut
        out := { rdata := none, adcTrigger := false } } ∧
      exec (.wrU4Ctrl w) s = .next { s with
        u4 := { s.u4 with
          en := w.getLsbD 0
          count := if w.getLsbD 1 then 0 else s.u4.count
          psc := if w.getLsbD 1 then 0 else s.u4.psc }
        out := { rdata := none, adcTrigger := false } }

/-- `WR.U3_CTRL`: F2 for a clear or a disarm while a source is selected; otherwise as the other units
(`41_timer_units` R131). -/
def Obligations.WriteCtrlOfUnit3 : Prop :=
  WriteAt .wrU3Ctrl 0x0080#16 ∧
    ∀ (w : Word) (s : State),
      exec (.wrU3Ctrl w) s =
        if (s.capEn = true ∨ s.pbEn = true) ∧
            (w.getLsbD 1 = true ∨ (s.u3.en = true ∧ w.getLsbD 0 = false)) then
          .fault (.toneDuringCapture 0x0080#16 w s.capEn s.pbEn)
        else .next { s with
          u3 := { s.u3 with
            en := w.getLsbD 0
            count := if w.getLsbD 1 then 0 else s.u3.count
            psc := if w.getLsbD 1 then 0 else s.u3.psc }
          out := { rdata := none, adcTrigger := false } }

/-- `WR.Uk_PRESCALE`: stored while disarmed, F1 while armed, whatever the data (`41_timer_units` R132). -/
def Obligations.WritePrescale : Prop :=
  WriteAt .wrU1Prescale 0x0044#16 ∧ WriteAt .wrU2Prescale 0x0064#16 ∧
    WriteAt .wrU3Prescale 0x0084#16 ∧ WriteAt .wrU4Prescale 0x00A4#16 ∧
    ∀ (w : Word) (s : State),
      exec (.wrU1Prescale w) s =
        (if s.u1.en then .fault (.reconfigWhileArmed .u1 0x04#5 w)
        else .next { s with
          u1 := { s.u1 with prescale := w }, out := { rdata := none, adcTrigger := false } }) ∧
      exec (.wrU2Prescale w) s =
        (if s.u2.en then .fault (.reconfigWhileArmed .u2 0x04#5 w)
        else .next { s with
          u2 := { s.u2 with prescale := w }, out := { rdata := none, adcTrigger := false } }) ∧
      exec (.wrU3Prescale w) s =
        (if s.u3.en then .fault (.reconfigWhileArmed .u3 0x04#5 w)
        else .next { s with
          u3 := { s.u3 with prescale := w }, out := { rdata := none, adcTrigger := false } }) ∧
      exec (.wrU4Prescale w) s =
        (if s.u4.en then .fault (.reconfigWhileArmed .u4 0x04#5 w)
        else .next { s with
          u4 := { s.u4 with prescale := w }, out := { rdata := none, adcTrigger := false } })

/-- `WR.Uk_MATCH0`: ignored for unit 1; stored while disarmed and F1 while armed for units 2 to 4
(`41_timer_units` R133). -/
def Obligations.WriteMatch0 : Prop :=
  WriteAt .wrU1Match0 0x0048#16 ∧ WriteAt .wrU2Match0 0x0068#16 ∧
    WriteAt .wrU3Match0 0x0088#16 ∧ WriteAt .wrU4Match0 0x00A8#16 ∧
    ∀ (w : Word) (s : State),
      exec (.wrU1Match0 w) s = .next { s with out := { rdata := none, adcTrigger := false } } ∧
      exec (.wrU2Match0 w) s =
        (if s.u2.en then .fault (.reconfigWhileArmed .u2 0x08#5 w)
        else .next { s with u2Match0 := w, out := { rdata := none, adcTrigger := false } }) ∧
      exec (.wrU3Match0 w) s =
        (if s.u3.en then .fault (.reconfigWhileArmed .u3 0x08#5 w)
        else .next { s with u3Match0 := w, out := { rdata := none, adcTrigger := false } }) ∧
      exec (.wrU4Match0 w) s =
        (if s.u4.en then .fault (.reconfigWhileArmed .u4 0x08#5 w)
        else .next { s with u4Match0 := w, out := { rdata := none, adcTrigger := false } })

/-- `WR.Uk_MATCH1`: ignored for units 1 and 2; F1 on unit 3 while armed; always stored for unit 4, where
the new duty applies to `bl_pwm` from the same operation on (`41_timer_units` R134). -/
def Obligations.WriteMatch1 : Prop :=
  WriteAt .wrU1Match1 0x004C#16 ∧ WriteAt .wrU2Match1 0x006C#16 ∧
    WriteAt .wrU3Match1 0x008C#16 ∧ WriteAt .wrU4Match1 0x00AC#16 ∧
    ∀ (w : Word) (s : State),
      exec (.wrU1Match1 w) s = .next { s with out := { rdata := none, adcTrigger := false } } ∧
      exec (.wrU2Match1 w) s = .next { s with out := { rdata := none, adcTrigger := false } } ∧
      exec (.wrU3Match1 w) s =
        (if s.u3.en then .fault (.reconfigWhileArmed .u3 0x0C#5 w)
        else .next { s with u3Match1 := w, out := { rdata := none, adcTrigger := false } }) ∧
      exec (.wrU4Match1 w) s =
        .next { s with u4Match1 := w, out := { rdata := none, adcTrigger := false } } ∧
      ∀ t, exec (.wrU4Match1 w) s = .next t →
        (blPwm t = true ↔ s.u4.en = true ∧ w.toNat ≤ s.u4.count.toNat)

/-- `WR.Uk_ROLE`: ignored for units 1, 2, 4; on unit 3 writing the current `TONE` does nothing, a change
while armed is F1, entering the tone role under a selected source is F2, else `TONE` is stored
(`41_timer_units` R136). -/
def Obligations.WriteRole : Prop :=
  WriteAt .wrU1Role 0x0054#16 ∧ WriteAt .wrU2Role 0x0074#16 ∧
    WriteAt .wrU3Role 0x0094#16 ∧ WriteAt .wrU4Role 0x00B4#16 ∧
    ∀ (w : Word) (s : State),
      exec (.wrU1Role w) s = .next { s with out := { rdata := none, adcTrigger := false } } ∧
      exec (.wrU2Role w) s = .next { s with out := { rdata := none, adcTrigger := false } } ∧
      exec (.wrU4Role w) s = .next { s with out := { rdata := none, adcTrigger := false } } ∧
      exec (.wrU3Role w) s =
        if w.getLsbD 8 = s.u3Tone then
          .next { s with out := { rdata := none, adcTrigger := false } }
        else if s.u3.en = true then .fault (.reconfigWhileArmed .u3 0x14#5 w)
        else if w.getLsbD 8 = true ∧ (s.capEn = true ∨ s.pbEn = true) then
          .fault (.toneDuringCapture 0x0094#16 w s.capEn s.pbEn)
        else .next { s with
          u3Tone := w.getLsbD 8, out := { rdata := none, adcTrigger := false } }

/-- The output levels are these functions of the state (`41_timer_units` R139, R141, `42` R178, `43` R198);
for `clk_out` see `ClockOutAndTriggerPeriods`. -/
def Obligations.OutputLevels : Prop :=
  ∀ s : State,
    (tonePwm s = true ↔
      s.u3.en = true ∧ s.u3Tone = true ∧ s.u3Match1.toNat ≤ s.u3.count.toNat) ∧
    (blPwm s = true ↔ s.u4.en = true ∧ s.u4Match1.toNat ≤ s.u4.count.toNat) ∧
    (bufReady s = true ↔ s.readyCount ≠ 0) ∧
    (frameEdge s = true ↔ s.fpe = true)

/-- Inverted brightness: of the `m+1` count values of a period, `bl_pwm` is high for
`m + 1 - min(d, m+1)`; and the same for `tone_pwm` in the tone role (`41_timer_units` R147, R139). -/
def Obligations.PwmDutyIsInverted : Prop :=
  ∀ s : State,
    (s.u4.en = true →
      ((List.range (s.u4Match0.toNat + 1)).filter fun c =>
          blPwm { s with u4 := { s.u4 with count := BitVec.ofNat 32 c } }).length
        = s.u4Match0.toNat + 1 - min s.u4Match1.toNat (s.u4Match0.toNat + 1)) ∧
    (s.u3.en = true → s.u3Tone = true →
      ((List.range (s.u3Match0.toNat + 1)).filter fun c =>
          tonePwm { s with u3 := { s.u3 with count := BitVec.ofNat 32 c } }).length
        = s.u3Match0.toNat + 1 - min s.u3Match1.toNat (s.u3Match0.toNat + 1))

/-! ## Audio pipeline and frame pacing -/

/-- The sample is the top 8 bits of the low `ADC_W` bits of the data, truncated (`42_audio_pipeline`
R161). -/
def Obligations.SampleIsTopEightBits : Prop :=
  ∀ (adcW : Nat) (data : Word), 8 ≤ adcW → adcW ≤ 32 →
    (sampleOf adcW data).toNat = data.toNat % 2 ^ adcW / 2 ^ (adcW - 8)

/-- `EVT.ADC_DONE` with the live source off is dropped, changing nothing, in playback too
(`42_audio_pipeline` R160). -/
def Obligations.AdcDroppedWithoutLiveSource : Prop :=
  (∀ data : Word, decode (mkOpWord 0b10#2 0x0003#16 data) = .evtAdcDone data) ∧
    ∀ (data : Word) (s : State), s.capEn = false →
      exec (.evtAdcDone data) s = .next { s with out := { rdata := none, adcTrigger := false } }

/-- `EVT.ADC_DONE` before offset 511: the sample is stored at `BUF[put_index][fill_offset]` and no other
byte changes, the peak is raised by a larger sample only, `fill_offset` goes up by one
(`42_audio_pipeline` R160 to R163, R165). -/
def Obligations.AdcStoresSample : Prop :=
  ∀ (data : Word) (s : State) (v : Byte) (a : Nat), s.capEn = true → s.fillOffset ≠ 511#9 →
    v = sampleOf s.cfg.adcW data →
    a = 0x8000 + 512 * s.putIndex.toNat + s.fillOffset.toNat →
    ∃ pool : Memory,
      exec (.evtAdcDone data) s = .next { s with
        pool := pool
        peak := if s.peak.toNat < v.toNat then v else s.peak
        fillOffset := s.fillOffset + 1
        out := { rdata := none, adcTrigger := false } } ∧
      pool.read a = some v ∧ ∀ b, b ≠ a → pool.read b = s.pool.read b

/-- `EVT.ADC_DONE` at offset 511 completes the buffer: the sample is stored, `fill_offset` and `peak`
return to 0, a missed frame is counted where the edge was still set, the edge is set, `ready_count` goes
up to the ceiling `N-1` or else `overrun_count` does, and `put_index` advances circularly
(`42_audio_pipeline` R160, R164, R167, R168, `43_frame_pacing` R190). -/
def Obligations.AdcCompletesBuffer : Prop :=
  ∀ (data : Word) (s : State) (a : Nat), s.capEn = true → s.fillOffset = 511#9 →
    a = 0x8000 + 512 * s.putIndex.toNat + 511 →
    ∃ pool : Memory,
      exec (.evtAdcDone data) s = .next { s with
        pool := pool
        peak := 0
        fillOffset := 0
        missedCount := if s.fpe then bump s.missedCount else s.missedCount
        fpe := true
        readyCount :=
          if s.readyCount.toNat < s.cfg.bufCount - 1 then s.readyCount + 1 else s.readyCount
        overrunCount :=
          if s.readyCount.toNat < s.cfg.bufCount - 1 then s.overrunCount else bump s.overrunCount
        putIndex := if s.putIndex.toNat < s.cfg.bufCount - 1 then s.putIndex + 1 else 0
        out := { rdata := none, adcTrigger := false } } ∧
      pool.read a = some (sampleOf s.cfg.adcW data) ∧ ∀ b, b ≠ a → pool.read b = s.pool.read b

/-- The producer never looks at the consumer's state: `ready_count`, the edge and the two counters have no
influence on the stored bytes, on `put_index`, `fill_offset` or `peak` (`42_audio_pipeline` R184). -/
def Obligations.ProducerIgnoresConsumerState : Prop :=
  ∀ (data : Word) (s t t' : State) (ready : BitVec 8) (edge : Bool) (overrun missed : Word),
    exec (.evtAdcDone data) s = .next t →
    exec (.evtAdcDone data) { s with
      readyCount := ready, fpe := edge, overrunCount := overrun, missedCount := missed } = .next t' →
    t'.pool = t.pool ∧ t'.putIndex = t.putIndex ∧ t'.fillOffset = t.fillOffset ∧ t'.peak = t.peak

/-- A capture of up to 512 conversions from the start of a buffer leaves the samples in the buffer in the
order they came, and every other byte of the pool as it was (`42_audio_pipeline` R160, R162). -/
def Obligations.CapturedSamplesFillTheBuffer : Prop :=
  ∀ (ds : List Word) (s : State), s.capEn = true → s.fillOffset = 0 → ds.length ≤ 512 →
    ∃ t, runOps (ds.map .evtAdcDone) s = .next t ∧
      (∀ (i : Nat) (d : Word), ds[i]? = some d →
        t.pool.read (0x8000 + 512 * s.putIndex.toNat + i) = some (sampleOf s.cfg.adcW d)) ∧
      ∀ a, (∀ i < ds.length, a ≠ 0x8000 + 512 * s.putIndex.toNat + i) →
        t.pool.read a = s.pool.read a

/-- Up to 511 conversions into a buffer `peak` is the maximum of its samples; after the 512th it is 0
(`42_audio_pipeline` R163). -/
def Obligations.PeakIsMaximumOfTheFill : Prop :=
  ∀ (ds : List Word) (s : State), s.capEn = true → s.fillOffset = 0 → s.peak = 0 →
    ds.length ≤ 512 →
    ∃ t, runOps (ds.map .evtAdcDone) s = .next t ∧
      t.peak.toNat = if ds.length = 512 then 0
        else (ds.map fun d => (sampleOf s.cfg.adcW d).toNat).foldl max 0

/-- An undrained capture from clean pipeline state: after `n` conversions and so `c = n/512` completions,
`fill_offset = n mod 512`, `put_index = c mod N`, `ready_count = min(c, N-1)`, the overruns are the
completions beyond `N-1`, and the missed frames all but the first, below saturation
(`42_audio_pipeline` R167, R168, R185, `43_frame_pacing` R196). -/
def Obligations.UndrainedCaptureCounts : Prop :=
  ∀ (ds : List Word) (s : State) (c : Nat), s.cfg.wf → s.capEn = true → s.fillOffset = 0 →
    s.putIndex = 0 → s.readyCount = 0 → s.overrunCount = 0 → s.missedCount = 0 → s.fpe = false →
    c = ds.length / 512 →
    ∃ t, runOps (ds.map .evtAdcDone) s = .next t ∧
      t.fillOffset.toNat = ds.length % 512 ∧
      t.putIndex.toNat = c % s.cfg.bufCount ∧
      t.readyCount.toNat = min c (s.cfg.bufCount - 1) ∧
      t.overrunCount.toNat = min (c - (s.cfg.bufCount - 1)) (2 ^ 32 - 1) ∧
      t.missedCount.toNat = min (c - 1) (2 ^ 32 - 1) ∧
      t.fpe = decide (1 ≤ c)

/-- The counting laws with any drains, writes and events in between, from clean pipeline state and below
saturation, as long as neither `RESET` nor a `SESSION_RESET` is presented: `ready_count = c - d -
overrun_count`, `put_index = c mod N`, and the conversions performed are `512*c + fill_offset`
(`42_audio_pipeline` R185). -/
def Obligations.PipelineCountingLaws : Prop :=
  ∀ (is : List Instr) (s t : State) (c : Tally), Inv s → s.fillOffset = 0 → s.putIndex = 0 →
    s.readyCount = 0 → s.overrunCount = 0 →
    (∀ i ∈ is, i ≠ .evtReset ∧ isSessionReset i = false) →
    runTally is s { conversions := 0, completions := 0, drains := 0 } = some (t, c) →
    t.overrunCount ≠ 0xFFFFFFFF#32 →
    c.completions = t.readyCount.toNat + c.drains + t.overrunCount.toNat ∧
      t.putIndex.toNat = c.completions % s.cfg.bufCount ∧
      c.conversions = 512 * c.completions + t.fillOffset.toNat

/-- The ready buffers are the queue of completed and not yet drained buffers: the indices R183 computes
from `put_index` and `ready_count` follow, at every operation, the queue an observer keeps by appending
each completed buffer and taking the oldest at each drain or overrun (`42_audio_pipeline` R183). -/
def Obligations.ReadyBuffersAreTheDrainQueue : Prop :=
  ∀ (i : Instr) (s t : State), Inv s → exec i s = .next t →
    readyBuffers t = queueOp i s (readyBuffers s)

/-- The consumer's formula on the value of `PIPE_STAT` names the head of that queue, the oldest ready
buffer (`42_audio_pipeline` R183, `44_host_sequences` R209). -/
def Obligations.OldestReadyFormula : Prop :=
  ∀ s : State, Inv s → s.readyCount ≠ 0 →
    (readyBuffers s).head? = some (oldestReady s.cfg.bufCount (pipeStatWord s))

/-- `drain_one` with nothing in between: with no ready buffer it is one read of `PIPE_STAT` and changes
nothing; else it hands out one buffer and `ready_count` goes down by one (`44_host_sequences` R209).
`drain_all` with nothing in between takes every ready buffer; under any schedule it is over only where no
buffer is ready (R210, read as log 18 says). -/
def Obligations.DrainOneAndDrainAllTakeReadyBuffers : Prop :=
  (∀ s : State,
    (s.readyCount = 0 → ∀ sched,
      runHost ([] :: sched) (hostDrainOne s.cfg.bufCount) s = .next ({ s with
        out := { rdata := some (pipeStatWord s), adcTrigger := false } }, .done)) ∧
    (s.readyCount ≠ 0 →
      runHost (List.replicate 130 []) (hostDrainOne s.cfg.bufCount) s = .next ({ s with
        readyCount := s.readyCount - 1, out := { rdata := none, adcTrigger := false } }, .done)) ∧
    runHost (List.replicate (130 * s.readyCount.toNat + 1) []) (hostDrainAll s.cfg.bufCount) s =
      .next ({ s with
        readyCount := 0
        out := { rdata := some (pipeStatWord { s with readyCount := 0 }), adcTrigger := false } },
        .done)) ∧
  ∀ (sched : List (List Instr)) (bufCount : Nat) (s t : State),
    runHost sched (hostDrainAll bufCount) s = .next (t, .done) → t.readyCount = 0

/-- `WR.PIPE_CTRL`: F3 for both sources, F2 for a source in the tone role, F3 tested first; else the two
bits are stored and nothing else changes (`42_audio_pipeline` R169). -/
def Obligations.WritePipeCtrl : Prop :=
  WriteAt .wrPipeCtrl 0x0010#16 ∧
    ∀ (w : Word) (s : State),
      exec (.wrPipeCtrl w) s =
        if w.getLsbD 0 = true ∧ w.getLsbD 1 = true then .fault (.bothSourcesEnabled w)
        else if (w.getLsbD 0 = true ∨ w.getLsbD 1 = true) ∧ s.u3Tone = true then
          .fault (.toneDuringCapture 0x0010#16 w s.capEn s.pbEn)
        else .next { s with
          capEn := w.getLsbD 0, pbEn := w.getLsbD 1, out := { rdata := none, adcTrigger := false } }

/-- `WR.PIPE_CMD`: `DRAIN` takes one off `ready_count`, floor 0; `EDGE_CLR` clears the edge;
`SESSION_RESET`, last, clears the pipeline fields where both sources are off and is ignored otherwise; the
buffers never change (`42_audio_pipeline` R171 to R173, `43_frame_pacing` R193). -/
def Obligations.WritePipeCmd : Prop :=
  WriteAt .wrPipeCmd 0x0014#16 ∧
    ∀ (w : Word) (s : State) (clean : Prop) [Decidable clean],
      (clean ↔ w.getLsbD 2 = true ∧ s.capEn = false ∧ s.pbEn = false) →
      exec (.wrPipeCmd w) s = .next { s with
        putIndex := if clean then 0 else s.putIndex
        fillOffset := if clean then 0 else s.fillOffset
        readyCount :=
          if clean then 0
          else if w.getLsbD 0 = true ∧ s.readyCount ≠ 0 then s.readyCount - 1 else s.readyCount
        overrunCount := if clean then 0 else s.overrunCount
        missedCount := if clean then 0 else s.missedCount
        peak := if clean then 0 else s.peak
        fpe := if clean then false else if w.getLsbD 1 then false else s.fpe
        pbDiv := if clean then 0 else s.pbDiv
        out := { rdata := none, adcTrigger := false } }

/-- Register reads of the pipeline and the edge: `PIPE_CTRL`, `PIPE_CMD` (reads 0), `PEAK`, `OVERRUN`,
`MISSED`, `PB_DIV` (`42_audio_pipeline` R170, R174, R176, R177, `43_frame_pacing` R195, R197). -/
def Obligations.PipelineRegisterReads : Prop :=
  ReadOf .rdPipeCtrl 0x0010#16
      (fun s => (if s.capEn then 1 else 0) + (if s.pbEn then 2 else 0)) ∧
    ReadOf .rdPipeCmd 0x0014#16 (fun _ => 0) ∧
    ReadOf .rdPeak 0x001C#16 (fun s => BitVec.ofNat 32 s.peak.toNat) ∧
    ReadOf .rdOverrun 0x0020#16 (fun s => s.overrunCount) ∧
    ReadOf .rdMissed 0x0024#16 (fun s => s.missedCount) ∧
    ReadOf .rdPbDiv 0x0028#16 (fun s => BitVec.ofNat 32 s.pbDiv.toNat)

/-- `RD.PIPE_STAT` returns `ready_count`, `put_index`, `fill_offset` and the edge of one state in its
fields, the reserved bits 0, and clears nothing (`42_audio_pipeline` R175, `10_state` R28). -/
def Obligations.PipeStatFields : Prop :=
  (∀ data : Word, decode (mkOpWord 0b00#2 0x0018#16 data) = .rdPipeStat) ∧
    ∀ s : State, ∃ v : Word,
      exec .rdPipeStat s = .next { s with out := { rdata := some v, adcTrigger := false } } ∧
      v.extractLsb' 0 8 = s.readyCount ∧ v.extractLsb' 8 8 = s.putIndex ∧
      v.extractLsb' 16 9 = s.fillOffset ∧ v.extractLsb' 25 6 = 0 ∧ v.getLsbD 31 = s.fpe

/-- `RD.BUF` at `0x8000 + 512*b + o`, whatever the ignored data bits: for `b < N` the four bytes of buffer `b`
from offset `o`, the lowest address in bits 7:0; for `b >= N` 0; nothing changes (`42_audio_pipeline`
R180, `20_memory` R62, R63, `30_encoding` R81). R180 and R74 say only that the lane of an unwritten byte is
unspecified: that it is the free value `Config.freeByte` of the reset count and the address is the model's
choice (log 5). -/
def Obligations.ReadBufferWindow : Prop :=
  ∀ (s : State) (b o : Nat) (addr : Addr), b < 64 → o < 512 → o % 4 = 0 →
    addr = BitVec.ofNat 16 (0x8000 + 512 * b + o) →
    (∀ data : Word, decode (mkOpWord 0b00#2 addr data) = .rdBuf addr) ∧
    (b < s.cfg.bufCount → ∃ v : Word,
      exec (.rdBuf addr) s = .next { s with out := { rdata := some v, adcTrigger := false } } ∧
      ∀ i < 4, v.extractLsb' (8 * i) 8 =
        match s.pool.read (0x8000 + 512 * b + o + i) with
        | some byte => byte
        | none => Config.freeByte s.epoch (0x8000 + 512 * b + o + i)) ∧
    (s.cfg.bufCount ≤ b →
      exec (.rdBuf addr) s = .next { s with out := { rdata := some 0, adcTrigger := false } })

/-- Writes to the window, and every reserved encoding, do nothing; a reserved read returns 0. The last
clause says it of the words: any write with address bit 15 set, any event number from 4 on, any word of
class 11 (`42_audio_pipeline` R181, `30_encoding` R87, R88). -/
def Obligations.ReservedEncodingsDoNothing : Prop :=
  ∀ (s : State) (addr : Addr) (w : Word) (evt opSel : BitVec 16),
    exec (.wrBuf addr w) s = .next { s with out := { rdata := none, adcTrigger := false } } ∧
    exec (.wrReserved addr w) s = .next { s with out := { rdata := none, adcTrigger := false } } ∧
    exec (.evtReserved evt) s = .next { s with out := { rdata := none, adcTrigger := false } } ∧
    exec (.opReserved opSel) s = .next { s with out := { rdata := none, adcTrigger := false } } ∧
    exec (.rdReserved addr) s = .next { s with out := { rdata := some 0, adcTrigger := false } } ∧
    ∀ (c : BitVec 2) (sel : BitVec 16),
      (c = 0b01#2 ∧ 0x8000 ≤ sel.toNat) ∨ (c = 0b10#2 ∧ 0x0004 ≤ sel.toNat) ∨ c = 0b11#2 →
      exec (decode (mkOpWord c sel w)) s =
        .next { s with out := { rdata := none, adcTrigger := false } }

/-- Which words are reserved, and which are window writes: misaligned, unmapped and out-of-class words
decode to the reserved operations, every write with bit 15 set to the window write (`30_encoding` R87,
R88, `20_memory` R64, R65). -/
def Obligations.ReservedWordsDecodeAsReserved : Prop :=
  ∀ (addr : Addr) (w : Word),
    (aligned addr = false → decode (mkOpWord 0b00#2 addr w) = .rdReserved addr) ∧
    (0x00C0 ≤ addr.toNat → addr.toNat < 0x8000 →
      decode (mkOpWord 0b00#2 addr w) = .rdReserved addr ∧
      decode (mkOpWord 0b01#2 addr w) = .wrReserved addr w) ∧
    (aligned addr = false → inWindow addr = false →
      decode (mkOpWord 0b01#2 addr w) = .wrReserved addr w) ∧
    (inWindow addr = true → decode (mkOpWord 0b01#2 addr w) = .wrBuf addr w) ∧
    (4 ≤ addr.toNat → decode (mkOpWord 0b10#2 addr w) = .evtReserved addr) ∧
    decode (mkOpWord 0b11#2 addr w) = .opReserved addr

/-! ## Reset -/

/-- `EVT.RESET` in any state: every field of the block as in the state after reset, every buffer byte
unwritten, every output low and no pulse (`70_reset_and_hazards` R255). -/
def Obligations.ResetEvent : Prop :=
  (∀ data : Word, decode (mkOpWord 0b10#2 0x0000#16 data) = .evtReset) ∧
    ∀ s : State, ∃ t, exec .evtReset s = .next t ∧
      t = { State.reset with cfg := t.cfg, trace := t.trace, epoch := t.epoch } ∧
      (∀ a, t.pool.read a = none) ∧
      clkOutLevel t = false ∧ tonePwm t = false ∧ blPwm t = false ∧ frameEdge t = false ∧
      bufReady t = false ∧ t.out.adcTrigger = false

/-- Every register of the state after reset holds the value of R43's table, the pool has no written byte,
and every output is low (`10_state` R43). -/
def Obligations.ResetState : Prop :=
  (State.reset.tickCnt = 0 ∧ State.reset.slowPoll = 0 ∧ State.reset.capEn = false ∧
    State.reset.pbEn = false ∧ State.reset.putIndex = 0 ∧ State.reset.fillOffset = 0 ∧
    State.reset.readyCount = 0 ∧ State.reset.overrunCount = 0 ∧ State.reset.missedCount = 0 ∧
    State.reset.peak = 0 ∧ State.reset.fpe = false ∧ State.reset.pbDiv = 0) ∧
  (∀ a, State.reset.pool.read a = none) ∧
  (∀ k, State.reset.unit k = { en := false, prescale := 0, count := 0, psc := 0 } ∧
    State.reset.match0 k = 0 ∧ State.reset.match1 k = 0) ∧
  (State.reset.u3Tone = false ∧ State.reset.clkOut = false ∧
    State.reset.out.adcTrigger = false) ∧
  (clkOutLevel State.reset = false ∧ tonePwm State.reset = false ∧ blPwm State.reset = false ∧
    frameEdge State.reset = false ∧ bufReady State.reset = false)

/-! ## The whole machine -/

/-- The invariants of R45 hold right after reset, for every choice of the parameters that R6 allows. -/
def Obligations.ResetEstablishesInvariants : Prop :=
  Inv State.reset

/-- Every step keeps the invariants: the counters stay under their ceilings, the indices below `N`, at
most one source is selected, and none in the tone role (`10_state` R45); the pool keeps its form. -/
def Obligations.StepKeepsInvariants : Prop :=
  ∀ s t : State, Inv s → step s = .next t → Inv t

/-- `overrun_count` and `missed_count` never go down while a source is selected, but by `RESET`
(`10_state` R30, R31, R45; log 15). -/
def Obligations.DiagnosticCountersMonotone : Prop :=
  ∀ (i : Instr) (s t : State), exec i s = .next t → i ≠ .evtReset →
    (s.capEn = true ∨ s.pbEn = true) →
    s.overrunCount.toNat ≤ t.overrunCount.toNat ∧ s.missedCount.toNat ≤ t.missedCount.toNat

/-- No read changes the state: every `RD` operation completes and only returns a value (`20_memory`
R67). -/
def Obligations.ReadsHaveNoSideEffect : Prop :=
  ∀ (i : Instr) (s : State), i.opClass = .rd →
    ∃ v, exec i s = .next { s with out := { rdata := some v, adcTrigger := false } }

/-- An operation faults exactly where R227 to R229 say, with the fault that R234 puts first, and completes
in every other state; nothing is refused (`60_exceptions` R226 to R229, R234). -/
def Obligations.FaultsExactlyWhereStated : Prop :=
  ∀ (i : Instr) (s : State),
    match faultOf i s with
    | some f => exec i s = .fault f
    | none => Completes (exec i s)

/-- Host operations write no field of the event context, `SESSION_RESET` apart; `CLK`, `TICK` and
`ADC_DONE` write no field of the host context (`60_exceptions` R238). Third, no operation writes the
model's parameters or schedule, which are no state of the block (`10_state` R42; logs 1, 4, 6). -/
def Obligations.FieldOwnership : Prop :=
  ∀ (i : Instr) (s t : State), exec i s = .next t →
    ((i.opClass = .rd ∨ i.opClass = .wr) → isSessionReset i = false →
      t.putIndex = s.putIndex ∧ t.fillOffset = s.fillOffset ∧ t.peak = s.peak ∧
      t.overrunCount = s.overrunCount ∧ t.missedCount = s.missedCount ∧ t.pbDiv = s.pbDiv ∧
      t.pool = s.pool ∧ t.epoch = s.epoch) ∧
    (i.opClass = .evt → i ≠ .evtReset →
      t.capEn = s.capEn ∧ t.pbEn = s.pbEn ∧ t.u3Tone = s.u3Tone ∧
      (∀ k, (t.unit k).en = (s.unit k).en ∧ (t.unit k).prescale = (s.unit k).prescale ∧
        t.match0 k = s.match0 k ∧ t.match1 k = s.match1 k)) ∧
    (t.cfg = s.cfg ∧ t.trace = s.trace)

/-- `CLK` and `ADC_DONE` commute, but for which of them shows its output last, wherever at most one source
is selected (`60_exceptions` R233). -/
def Obligations.ClkAndAdcDoneCommute : Prop :=
  ∀ (data : Word) (s t t' : State), ¬ (s.capEn = true ∧ s.pbEn = true) →
    runOps [.evtClk, .evtAdcDone data] s = .next t →
    runOps [.evtAdcDone data, .evtClk] s = .next t' →
    t' = { t with out := t'.out }

/-- The order of `TICK` relative to `CLK` and to `ADC_DONE` cannot be seen in the state (`60_exceptions`
R233). -/
def Obligations.TickCommutesWithClkAndAdcDone : Prop :=
  ∀ (s t t' : State) (i : Instr), (i = .evtClk ∨ ∃ data, i = .evtAdcDone data) →
    runOps [.evtTick, i] s = .next t → runOps [i, .evtTick] s = .next t' →
    t' = { t with out := t'.out }

/-- The operations one clock cycle's ports present, in order: `RESET` alone, or `CLK`, `TICK`, `ADC_DONE`,
host access (`30_encoding` R97, `60_exceptions` R233). -/
def Obligations.CyclePresentsOperationsInOrder : Prop :=
  ∀ c : Cycle, (cycleWords c).map decode =
    if c.rst then [.evtReset]
    else [.evtClk] ++ (if c.tick10ms then [.evtTick] else [])
      ++ (c.adcDone.map Instr.evtAdcDone).toList
      ++ (c.access.map fun x =>
          if x.write then decodeWr x.addr x.wdata else decodeRd x.addr).toList

/-! ## Host sequences -/

/-- `unit_cfg` completes in every state (for unit 3: with no source selected) and leaves the unit cleared,
configured and armed, the other units as they were (`44_host_sequences` R207; log 16). -/
def Obligations.UnitCfgConfiguresTheUnit : Prop :=
  ∀ (k : UnitId) (pre m0 m1 : Word) (tone : Bool) (s : State), (k = .u3 → s.srcOn = false) →
    ∃ t, runOps (unitCfg k pre m0 m1 tone) s = .next t ∧
      t.unit k = { en := true, prescale := pre, count := 0, psc := 0 } ∧
      (k ≠ .u1 → t.match0 k = m0) ∧ (k = .u3 ∨ k = .u4 → t.match1 k = m1) ∧
      t.u3Tone = (if k = .u3 then tone else s.u3Tone) ∧
      ∀ j, j ≠ k → t.unit j = s.unit j ∧ t.match0 j = s.match0 j ∧ t.match1 j = s.match1 j

/-- The boot configuration completes from reset: units 1, 3 and 4 armed and unit 2 disarmed, all with the
open boot values, unit 3 in its sample role, no source selected (`44_host_sequences` R206). -/
def Obligations.BootConfigFromReset : Prop :=
  ∃ t, runOps bootConfig State.reset = .next t ∧
    (∀ k, t.unit k = {
      en := decide (k ≠ .u2), prescale := Config.bootPrescale k, count := 0, psc := 0 }) ∧
    (∀ k, k ≠ .u1 → t.match0 k = Config.bootMatch0 k) ∧
    (∀ k, k = .u3 ∨ k = .u4 → t.match1 k = Config.bootMatch1 k) ∧
    t.u3Tone = false ∧ t.srcOn = false

/-- `tone top, duty, dur` (`44_host_sequences` R208). Where unit 3 is armed and a source is selected, it faults
with F2 at its first write, the fourth operation. With no source selected and nothing in between, after ten
operations unit 3 plays the tone with what is left the wait and the restore of what was read; and with `dur`
`TICK`s (at most `TICK_MAX`) before the first poll, the whole sequence leaves unit 3 as it was configured,
cleared, armed and in its sample role, and nothing else changed but the two tick counters. -/
def Obligations.ToneTakesAndRestoresUnit3 : Prop :=
  ∀ (top duty dur : Word) (s : State),
    (s.u3.en = true → s.srcOn = true → ∀ sched,
      runHost ([] :: [] :: [] :: [] :: sched) (hostTone top duty dur) s
        = .fault (.toneDuringCapture 0x0080#16 0 s.capEn s.pbEn)) ∧
    (s.srcOn = false →
      runHost (List.replicate 10 []) (hostTone top duty dur) s = .next ({ s with
        u3 := { en := true, prescale := Config.tonePre, count := 0, psc := 0 }
        u3Match0 := top, u3Match1 := duty, u3Tone := true
        out := { rdata := none, adcTrigger := false } },
        hostWait dur (.issues (unitCfg .u3 s.u3.prescale s.u3Match0 s.u3Match1 false) .done))) ∧
    (s.srcOn = false → dur.toNat ≤ s.cfg.tickMax.toNat → ∃ t,
      runHost (List.replicate 11 [] ++ [List.replicate dur.toNat .evtTick] ++ List.replicate 7 [])
        (hostTone top duty dur) s = .next (t, .done) ∧
      t = { s with
        u3 := { en := true, prescale := s.u3.prescale, count := 0, psc := 0 }
        u3Tone := false, tickCnt := dur, slowPoll := t.slowPoll
        out := { rdata := none, adcTrigger := false } })

/-- The session sequences from no source and the sample role: the pipeline fields are cleared, the buffers
kept, and the source selected; stopping deselects it in every state (`44_host_sequences` R215). With nothing
in between, `slow_poll_check` reloads the countdown exactly where it reads 0, and `frame_wait` clears the
edge exactly where it reads it set; else each is its one read (R211, R213). -/
def Obligations.SessionAndPollingSequences : Prop :=
  ∀ s : State,
    (s.srcOn = false → s.u3Tone = false →
      runOps startCapture s = .next { s with
        putIndex := 0, fillOffset := 0, readyCount := 0, overrunCount := 0, missedCount := 0
        peak := 0, fpe := false, pbDiv := 0, capEn := true
        out := { rdata := none, adcTrigger := false } } ∧
      runOps startPlayback s = .next { s with
        putIndex := 0, fillOffset := 0, readyCount := 0, overrunCount := 0, missedCount := 0
        peak := 0, fpe := false, pbDiv := 0, pbEn := true
        out := { rdata := none, adcTrigger := false } }) ∧
    (runOps stopCapture s = .next { s with
        capEn := false, pbEn := false, out := { rdata := none, adcTrigger := false } } ∧
      runOps stopPlayback s = .next { s with
        capEn := false, pbEn := false, out := { rdata := none, adcTrigger := false } }) ∧
    runHost [[], []] hostSlowPollCheck s =
      (if s.slowPoll = 0 then .next ({ s with
          slowPoll := s.cfg.spPeriod, out := { rdata := none, adcTrigger := false } }, .done)
        else .next ({ s with out := { rdata := some s.slowPoll, adcTrigger := false } }, .done)) ∧
    runHost [[], []] hostFrameWait s =
      (if s.fpe = true then .next ({ s with
          fpe := false, out := { rdata := none, adcTrigger := false } }, .done)
        else .next ({ s with out := { rdata := some (pipeStatWord s), adcTrigger := false } }, .done))
end

