-- ==== Sys2Proof/Laws/Decode.lean ====
section
/-! SUPPORT. The fields of a word made from fields, and a word made of its own fields (`30_encoding`
R80). -/

namespace Sys2Proof

/-- The bits of a word made from fields. -/
theorem mkOpWord_getLsbD (c : BitVec 2) (a : BitVec 16) (d : Word) (i : Nat) :
    (mkOpWord c a d).getLsbD i =
      if i < 32 then d.getLsbD i else if i - 32 < 16 then a.getLsbD (i - 32)
      else c.getLsbD (i - 32 - 16) := by
  have h : (mkOpWord c a d).getLsbD i = (c ++ (a ++ d)).getLsbD i := rfl
  rw [h, BitVec.getLsbD_append, BitVec.getLsbD_append]
  by_cases h1 : i < 32
  · rw [if_pos (by omega), if_pos h1, if_pos h1]
  · rw [if_neg h1, if_neg h1]
    by_cases h2 : i - 32 < 16
    · rw [if_pos (by omega), if_pos h2]
    · rw [if_neg (by omega), if_neg h2, Nat.sub_sub, Nat.add_comm 32 16]

@[simp] theorem mkOpWord_cls (c : BitVec 2) (a : BitVec 16) (d : Word) : (mkOpWord c a d).cls = c := by
  refine BitVec.eq_of_getLsbD_eq fun i hi => ?_
  simp only [OpWord.cls, BitVec.getLsbD_extractLsb', mkOpWord_getLsbD]
  rw [if_neg (by omega), if_neg (by omega)]
  simp [show 48 + i - 32 - 16 = i by omega, hi]

@[simp] theorem mkOpWord_sel (c : BitVec 2) (a : BitVec 16) (d : Word) : (mkOpWord c a d).sel = a := by
  refine BitVec.eq_of_getLsbD_eq fun i hi => ?_
  simp only [OpWord.sel, BitVec.getLsbD_extractLsb', mkOpWord_getLsbD]
  rw [if_neg (by omega), if_pos (by omega)]
  simp [hi]

@[simp] theorem mkOpWord_data (c : BitVec 2) (a : BitVec 16) (d : Word) :
    (mkOpWord c a d).data = d := by
  refine BitVec.eq_of_getLsbD_eq fun i hi => ?_
  simp only [OpWord.data, BitVec.getLsbD_extractLsb', mkOpWord_getLsbD]
  rw [if_pos (by omega)]
  simp [hi]

/-- A word is made of its three fields: no bit is outside them (R80). -/
theorem mkOpWord_fields (w : OpWord) : mkOpWord w.cls w.sel w.data = w := by
  refine BitVec.eq_of_getLsbD_eq fun i hi => ?_
  rw [mkOpWord_getLsbD]
  simp only [OpWord.cls, OpWord.sel, OpWord.data, BitVec.getLsbD_extractLsb']
  split
  · simp [*]
  · split
    · simp [*, show 32 + (i - 32) = i by omega]
    · simp [show 48 + (i - 32 - 16) = i by omega, show i - 32 - 16 < 2 by omega]

/-- Words with the same fields are equal. -/
theorem opWord_ext (v w : OpWord) (hc : v.cls = w.cls) (hs : v.sel = w.sel) (hd : v.data = w.data) :
    v = w := by
  rw [← mkOpWord_fields v, ← mkOpWord_fields w, hc, hs, hd]

/-- What a word made from fields decodes to: the class chooses the row group (R84). -/
theorem decode_mkOpWord (c : BitVec 2) (a : BitVec 16) (d : Word) :
    decode (mkOpWord c a d) =
      if c = 0b00#2 then decodeRd a
      else if c = 0b01#2 then decodeWr a d
      else if c = 0b10#2 then decodeEvt a d
      else .opReserved a := by
  simp [decode]

/-- A mask made from fields masks each field on its own (R90). -/
theorem mkOpWord_and (c c' : BitVec 2) (a a' : BitVec 16) (d d' : Word) :
    mkOpWord c a d &&& mkOpWord c' a' d' = mkOpWord (c &&& c') (a &&& a') (d &&& d') := by
  refine BitVec.eq_of_getLsbD_eq fun i hi => ?_
  rw [BitVec.getLsbD_and, mkOpWord_getLsbD, mkOpWord_getLsbD, mkOpWord_getLsbD]
  split
  · simp
  · split <;> simp

/-- Words made from fields are equal exactly where the fields are. -/
theorem mkOpWord_inj (c c' : BitVec 2) (a a' : BitVec 16) (d d' : Word) :
    mkOpWord c a d = mkOpWord c' a' d' ↔ c = c' ∧ a = a' ∧ d = d' := by
  constructor
  · intro h
    exact ⟨by simpa using congrArg OpWord.cls h, by simpa using congrArg OpWord.sel h,
      by simpa using congrArg OpWord.data h⟩
  · rintro ⟨rfl, rfl, rfl⟩; rfl

end Sys2Proof
end

