-- ==== Sys2Proof/Laws/State.lean ====
section
/-! SUPPORT. One lemma per field per update of the state, each true by unfolding, so that no later proof
unfolds an update. -/

namespace Sys2Proof.Machine

open Sys2Proof

/-! ## `State.quiet` -/

@[simp] theorem quiet_tickCnt (s : State) : (s.quiet).tickCnt = s.tickCnt := rfl
@[simp] theorem quiet_slowPoll (s : State) : (s.quiet).slowPoll = s.slowPoll := rfl
@[simp] theorem quiet_capEn (s : State) : (s.quiet).capEn = s.capEn := rfl
@[simp] theorem quiet_pbEn (s : State) : (s.quiet).pbEn = s.pbEn := rfl
@[simp] theorem quiet_putIndex (s : State) : (s.quiet).putIndex = s.putIndex := rfl
@[simp] theorem quiet_fillOffset (s : State) : (s.quiet).fillOffset = s.fillOffset := rfl
@[simp] theorem quiet_readyCount (s : State) : (s.quiet).readyCount = s.readyCount := rfl
@[simp] theorem quiet_overrunCount (s : State) : (s.quiet).overrunCount = s.overrunCount := rfl
@[simp] theorem quiet_missedCount (s : State) : (s.quiet).missedCount = s.missedCount := rfl
@[simp] theorem quiet_peak (s : State) : (s.quiet).peak = s.peak := rfl
@[simp] theorem quiet_fpe (s : State) : (s.quiet).fpe = s.fpe := rfl
@[simp] theorem quiet_pbDiv (s : State) : (s.quiet).pbDiv = s.pbDiv := rfl
@[simp] theorem quiet_pool (s : State) : (s.quiet).pool = s.pool := rfl
@[simp] theorem quiet_u1 (s : State) : (s.quiet).u1 = s.u1 := rfl
@[simp] theorem quiet_u2 (s : State) : (s.quiet).u2 = s.u2 := rfl
@[simp] theorem quiet_u3 (s : State) : (s.quiet).u3 = s.u3 := rfl
@[simp] theorem quiet_u4 (s : State) : (s.quiet).u4 = s.u4 := rfl
@[simp] theorem quiet_u2Match0 (s : State) : (s.quiet).u2Match0 = s.u2Match0 := rfl
@[simp] theorem quiet_u3Match0 (s : State) : (s.quiet).u3Match0 = s.u3Match0 := rfl
@[simp] theorem quiet_u4Match0 (s : State) : (s.quiet).u4Match0 = s.u4Match0 := rfl
@[simp] theorem quiet_u3Match1 (s : State) : (s.quiet).u3Match1 = s.u3Match1 := rfl
@[simp] theorem quiet_u4Match1 (s : State) : (s.quiet).u4Match1 = s.u4Match1 := rfl
@[simp] theorem quiet_u3Tone (s : State) : (s.quiet).u3Tone = s.u3Tone := rfl
@[simp] theorem quiet_clkOut (s : State) : (s.quiet).clkOut = s.clkOut := rfl
@[simp] theorem quiet_cfg (s : State) : (s.quiet).cfg = s.cfg := rfl
@[simp] theorem quiet_trace (s : State) : (s.quiet).trace = s.trace := rfl
@[simp] theorem quiet_out (s : State) : (s.quiet).out = Output.quiet := rfl
@[simp] theorem quiet_epoch (s : State) : (s.quiet).epoch = s.epoch := rfl

/-! ## `State.answer` -/

@[simp] theorem answer_tickCnt (s : State) (v : Word) : (s.answer v).tickCnt = s.tickCnt := rfl
@[simp] theorem answer_slowPoll (s : State) (v : Word) : (s.answer v).slowPoll = s.slowPoll := rfl
@[simp] theorem answer_capEn (s : State) (v : Word) : (s.answer v).capEn = s.capEn := rfl
@[simp] theorem answer_pbEn (s : State) (v : Word) : (s.answer v).pbEn = s.pbEn := rfl
@[simp] theorem answer_putIndex (s : State) (v : Word) : (s.answer v).putIndex = s.putIndex := rfl
@[simp] theorem answer_fillOffset (s : State) (v : Word) : (s.answer v).fillOffset = s.fillOffset := rfl
@[simp] theorem answer_readyCount (s : State) (v : Word) : (s.answer v).readyCount = s.readyCount := rfl
@[simp] theorem answer_overrunCount (s : State) (v : Word) : (s.answer v).overrunCount = s.overrunCount := rfl
@[simp] theorem answer_missedCount (s : State) (v : Word) : (s.answer v).missedCount = s.missedCount := rfl
@[simp] theorem answer_peak (s : State) (v : Word) : (s.answer v).peak = s.peak := rfl
@[simp] theorem answer_fpe (s : State) (v : Word) : (s.answer v).fpe = s.fpe := rfl
@[simp] theorem answer_pbDiv (s : State) (v : Word) : (s.answer v).pbDiv = s.pbDiv := rfl
@[simp] theorem answer_pool (s : State) (v : Word) : (s.answer v).pool = s.pool := rfl
@[simp] theorem answer_u1 (s : State) (v : Word) : (s.answer v).u1 = s.u1 := rfl
@[simp] theorem answer_u2 (s : State) (v : Word) : (s.answer v).u2 = s.u2 := rfl
@[simp] theorem answer_u3 (s : State) (v : Word) : (s.answer v).u3 = s.u3 := rfl
@[simp] theorem answer_u4 (s : State) (v : Word) : (s.answer v).u4 = s.u4 := rfl
@[simp] theorem answer_u2Match0 (s : State) (v : Word) : (s.answer v).u2Match0 = s.u2Match0 := rfl
@[simp] theorem answer_u3Match0 (s : State) (v : Word) : (s.answer v).u3Match0 = s.u3Match0 := rfl
@[simp] theorem answer_u4Match0 (s : State) (v : Word) : (s.answer v).u4Match0 = s.u4Match0 := rfl
@[simp] theorem answer_u3Match1 (s : State) (v : Word) : (s.answer v).u3Match1 = s.u3Match1 := rfl
@[simp] theorem answer_u4Match1 (s : State) (v : Word) : (s.answer v).u4Match1 = s.u4Match1 := rfl
@[simp] theorem answer_u3Tone (s : State) (v : Word) : (s.answer v).u3Tone = s.u3Tone := rfl
@[simp] theorem answer_clkOut (s : State) (v : Word) : (s.answer v).clkOut = s.clkOut := rfl
@[simp] theorem answer_cfg (s : State) (v : Word) : (s.answer v).cfg = s.cfg := rfl
@[simp] theorem answer_trace (s : State) (v : Word) : (s.answer v).trace = s.trace := rfl
@[simp] theorem answer_out (s : State) (v : Word) : (s.answer v).out = Output.returned v := rfl
@[simp] theorem answer_epoch (s : State) (v : Word) : (s.answer v).epoch = s.epoch := rfl

/-! ## `State.emitTrigger` -/

@[simp] theorem emitTrigger_tickCnt (s : State) : (s.emitTrigger).tickCnt = s.tickCnt := rfl
@[simp] theorem emitTrigger_slowPoll (s : State) : (s.emitTrigger).slowPoll = s.slowPoll := rfl
@[simp] theorem emitTrigger_capEn (s : State) : (s.emitTrigger).capEn = s.capEn := rfl
@[simp] theorem emitTrigger_pbEn (s : State) : (s.emitTrigger).pbEn = s.pbEn := rfl
@[simp] theorem emitTrigger_putIndex (s : State) : (s.emitTrigger).putIndex = s.putIndex := rfl
@[simp] theorem emitTrigger_fillOffset (s : State) : (s.emitTrigger).fillOffset = s.fillOffset := rfl
@[simp] theorem emitTrigger_readyCount (s : State) : (s.emitTrigger).readyCount = s.readyCount := rfl
@[simp] theorem emitTrigger_overrunCount (s : State) : (s.emitTrigger).overrunCount = s.overrunCount := rfl
@[simp] theorem emitTrigger_missedCount (s : State) : (s.emitTrigger).missedCount = s.missedCount := rfl
@[simp] theorem emitTrigger_peak (s : State) : (s.emitTrigger).peak = s.peak := rfl
@[simp] theorem emitTrigger_fpe (s : State) : (s.emitTrigger).fpe = s.fpe := rfl
@[simp] theorem emitTrigger_pbDiv (s : State) : (s.emitTrigger).pbDiv = s.pbDiv := rfl
@[simp] theorem emitTrigger_pool (s : State) : (s.emitTrigger).pool = s.pool := rfl
@[simp] theorem emitTrigger_u1 (s : State) : (s.emitTrigger).u1 = s.u1 := rfl
@[simp] theorem emitTrigger_u2 (s : State) : (s.emitTrigger).u2 = s.u2 := rfl
@[simp] theorem emitTrigger_u3 (s : State) : (s.emitTrigger).u3 = s.u3 := rfl
@[simp] theorem emitTrigger_u4 (s : State) : (s.emitTrigger).u4 = s.u4 := rfl
@[simp] theorem emitTrigger_u2Match0 (s : State) : (s.emitTrigger).u2Match0 = s.u2Match0 := rfl
@[simp] theorem emitTrigger_u3Match0 (s : State) : (s.emitTrigger).u3Match0 = s.u3Match0 := rfl
@[simp] theorem emitTrigger_u4Match0 (s : State) : (s.emitTrigger).u4Match0 = s.u4Match0 := rfl
@[simp] theorem emitTrigger_u3Match1 (s : State) : (s.emitTrigger).u3Match1 = s.u3Match1 := rfl
@[simp] theorem emitTrigger_u4Match1 (s : State) : (s.emitTrigger).u4Match1 = s.u4Match1 := rfl
@[simp] theorem emitTrigger_u3Tone (s : State) : (s.emitTrigger).u3Tone = s.u3Tone := rfl
@[simp] theorem emitTrigger_clkOut (s : State) : (s.emitTrigger).clkOut = s.clkOut := rfl
@[simp] theorem emitTrigger_cfg (s : State) : (s.emitTrigger).cfg = s.cfg := rfl
@[simp] theorem emitTrigger_trace (s : State) : (s.emitTrigger).trace = s.trace := rfl
@[simp] theorem emitTrigger_out (s : State) : (s.emitTrigger).out = ⟨s.out.rdata, true⟩ := rfl
@[simp] theorem emitTrigger_epoch (s : State) : (s.emitTrigger).epoch = s.epoch := rfl

/-! ## `State.setUnit` -/

@[simp] theorem setUnit_tickCnt (s : State) (k : UnitId) (u : TimerUnit) : (s.setUnit k u).tickCnt = s.tickCnt := by cases k <;> rfl
@[simp] theorem setUnit_slowPoll (s : State) (k : UnitId) (u : TimerUnit) : (s.setUnit k u).slowPoll = s.slowPoll := by cases k <;> rfl
@[simp] theorem setUnit_capEn (s : State) (k : UnitId) (u : TimerUnit) : (s.setUnit k u).capEn = s.capEn := by cases k <;> rfl
@[simp] theorem setUnit_pbEn (s : State) (k : UnitId) (u : TimerUnit) : (s.setUnit k u).pbEn = s.pbEn := by cases k <;> rfl
@[simp] theorem setUnit_putIndex (s : State) (k : UnitId) (u : TimerUnit) : (s.setUnit k u).putIndex = s.putIndex := by cases k <;> rfl
@[simp] theorem setUnit_fillOffset (s : State) (k : UnitId) (u : TimerUnit) : (s.setUnit k u).fillOffset = s.fillOffset := by cases k <;> rfl
@[simp] theorem setUnit_readyCount (s : State) (k : UnitId) (u : TimerUnit) : (s.setUnit k u).readyCount = s.readyCount := by cases k <;> rfl
@[simp] theorem setUnit_overrunCount (s : State) (k : UnitId) (u : TimerUnit) : (s.setUnit k u).overrunCount = s.overrunCount := by cases k <;> rfl
@[simp] theorem setUnit_missedCount (s : State) (k : UnitId) (u : TimerUnit) : (s.setUnit k u).missedCount = s.missedCount := by cases k <;> rfl
@[simp] theorem setUnit_peak (s : State) (k : UnitId) (u : TimerUnit) : (s.setUnit k u).peak = s.peak := by cases k <;> rfl
@[simp] theorem setUnit_fpe (s : State) (k : UnitId) (u : TimerUnit) : (s.setUnit k u).fpe = s.fpe := by cases k <;> rfl
@[simp] theorem setUnit_pbDiv (s : State) (k : UnitId) (u : TimerUnit) : (s.setUnit k u).pbDiv = s.pbDiv := by cases k <;> rfl
@[simp] theorem setUnit_pool (s : State) (k : UnitId) (u : TimerUnit) : (s.setUnit k u).pool = s.pool := by cases k <;> rfl
@[simp] theorem setUnit_u1 (s : State) (k : UnitId) (u : TimerUnit) : (s.setUnit k u).u1 = if k = .u1 then u else s.u1 := by cases k <;> rfl
@[simp] theorem setUnit_u2 (s : State) (k : UnitId) (u : TimerUnit) : (s.setUnit k u).u2 = if k = .u2 then u else s.u2 := by cases k <;> rfl
@[simp] theorem setUnit_u3 (s : State) (k : UnitId) (u : TimerUnit) : (s.setUnit k u).u3 = if k = .u3 then u else s.u3 := by cases k <;> rfl
@[simp] theorem setUnit_u4 (s : State) (k : UnitId) (u : TimerUnit) : (s.setUnit k u).u4 = if k = .u4 then u else s.u4 := by cases k <;> rfl
@[simp] theorem setUnit_u2Match0 (s : State) (k : UnitId) (u : TimerUnit) : (s.setUnit k u).u2Match0 = s.u2Match0 := by cases k <;> rfl
@[simp] theorem setUnit_u3Match0 (s : State) (k : UnitId) (u : TimerUnit) : (s.setUnit k u).u3Match0 = s.u3Match0 := by cases k <;> rfl
@[simp] theorem setUnit_u4Match0 (s : State) (k : UnitId) (u : TimerUnit) : (s.setUnit k u).u4Match0 = s.u4Match0 := by cases k <;> rfl
@[simp] theorem setUnit_u3Match1 (s : State) (k : UnitId) (u : TimerUnit) : (s.setUnit k u).u3Match1 = s.u3Match1 := by cases k <;> rfl
@[simp] theorem setUnit_u4Match1 (s : State) (k : UnitId) (u : TimerUnit) : (s.setUnit k u).u4Match1 = s.u4Match1 := by cases k <;> rfl
@[simp] theorem setUnit_u3Tone (s : State) (k : UnitId) (u : TimerUnit) : (s.setUnit k u).u3Tone = s.u3Tone := by cases k <;> rfl
@[simp] theorem setUnit_clkOut (s : State) (k : UnitId) (u : TimerUnit) : (s.setUnit k u).clkOut = s.clkOut := by cases k <;> rfl
@[simp] theorem setUnit_cfg (s : State) (k : UnitId) (u : TimerUnit) : (s.setUnit k u).cfg = s.cfg := by cases k <;> rfl
@[simp] theorem setUnit_trace (s : State) (k : UnitId) (u : TimerUnit) : (s.setUnit k u).trace = s.trace := by cases k <;> rfl
@[simp] theorem setUnit_out (s : State) (k : UnitId) (u : TimerUnit) : (s.setUnit k u).out = s.out := by cases k <;> rfl
@[simp] theorem setUnit_epoch (s : State) (k : UnitId) (u : TimerUnit) : (s.setUnit k u).epoch = s.epoch := by cases k <;> rfl

@[simp] theorem setUnit_unit (s : State) (k : UnitId) (u : TimerUnit) : (s.setUnit k u).unit k = u := by
  cases k <;> rfl

theorem setUnit_unit_ne (s : State) (k j : UnitId) (u : TimerUnit) (h : j ≠ k) :
    (s.setUnit k u).unit j = s.unit j := by
  cases k <;> cases j <;> first | rfl | exact absurd rfl h

@[simp] theorem setUnit_match0 (s : State) (k j : UnitId) (u : TimerUnit) :
    (s.setUnit k u).match0 j = s.match0 j := by
  cases k <;> cases j <;> rfl

/-! ## `State.setMatch0` -/

@[simp] theorem setMatch0_tickCnt (s : State) (k : UnitId) (v : Word) : (s.setMatch0 k v).tickCnt = s.tickCnt := by cases k <;> rfl
@[simp] theorem setMatch0_slowPoll (s : State) (k : UnitId) (v : Word) : (s.setMatch0 k v).slowPoll = s.slowPoll := by cases k <;> rfl
@[simp] theorem setMatch0_capEn (s : State) (k : UnitId) (v : Word) : (s.setMatch0 k v).capEn = s.capEn := by cases k <;> rfl
@[simp] theorem setMatch0_pbEn (s : State) (k : UnitId) (v : Word) : (s.setMatch0 k v).pbEn = s.pbEn := by cases k <;> rfl
@[simp] theorem setMatch0_putIndex (s : State) (k : UnitId) (v : Word) : (s.setMatch0 k v).putIndex = s.putIndex := by cases k <;> rfl
@[simp] theorem setMatch0_fillOffset (s : State) (k : UnitId) (v : Word) : (s.setMatch0 k v).fillOffset = s.fillOffset := by cases k <;> rfl
@[simp] theorem setMatch0_readyCount (s : State) (k : UnitId) (v : Word) : (s.setMatch0 k v).readyCount = s.readyCount := by cases k <;> rfl
@[simp] theorem setMatch0_overrunCount (s : State) (k : UnitId) (v : Word) : (s.setMatch0 k v).overrunCount = s.overrunCount := by cases k <;> rfl
@[simp] theorem setMatch0_missedCount (s : State) (k : UnitId) (v : Word) : (s.setMatch0 k v).missedCount = s.missedCount := by cases k <;> rfl
@[simp] theorem setMatch0_peak (s : State) (k : UnitId) (v : Word) : (s.setMatch0 k v).peak = s.peak := by cases k <;> rfl
@[simp] theorem setMatch0_fpe (s : State) (k : UnitId) (v : Word) : (s.setMatch0 k v).fpe = s.fpe := by cases k <;> rfl
@[simp] theorem setMatch0_pbDiv (s : State) (k : UnitId) (v : Word) : (s.setMatch0 k v).pbDiv = s.pbDiv := by cases k <;> rfl
@[simp] theorem setMatch0_pool (s : State) (k : UnitId) (v : Word) : (s.setMatch0 k v).pool = s.pool := by cases k <;> rfl
@[simp] theorem setMatch0_u1 (s : State) (k : UnitId) (v : Word) : (s.setMatch0 k v).u1 = s.u1 := by cases k <;> rfl
@[simp] theorem setMatch0_u2 (s : State) (k : UnitId) (v : Word) : (s.setMatch0 k v).u2 = s.u2 := by cases k <;> rfl
@[simp] theorem setMatch0_u3 (s : State) (k : UnitId) (v : Word) : (s.setMatch0 k v).u3 = s.u3 := by cases k <;> rfl
@[simp] theorem setMatch0_u4 (s : State) (k : UnitId) (v : Word) : (s.setMatch0 k v).u4 = s.u4 := by cases k <;> rfl
@[simp] theorem setMatch0_u2Match0 (s : State) (k : UnitId) (v : Word) : (s.setMatch0 k v).u2Match0 = if k = .u2 then v else s.u2Match0 := by cases k <;> rfl
@[simp] theorem setMatch0_u3Match0 (s : State) (k : UnitId) (v : Word) : (s.setMatch0 k v).u3Match0 = if k = .u3 then v else s.u3Match0 := by cases k <;> rfl
@[simp] theorem setMatch0_u4Match0 (s : State) (k : UnitId) (v : Word) : (s.setMatch0 k v).u4Match0 = if k = .u4 then v else s.u4Match0 := by cases k <;> rfl
@[simp] theorem setMatch0_u3Match1 (s : State) (k : UnitId) (v : Word) : (s.setMatch0 k v).u3Match1 = s.u3Match1 := by cases k <;> rfl
@[simp] theorem setMatch0_u4Match1 (s : State) (k : UnitId) (v : Word) : (s.setMatch0 k v).u4Match1 = s.u4Match1 := by cases k <;> rfl
@[simp] theorem setMatch0_u3Tone (s : State) (k : UnitId) (v : Word) : (s.setMatch0 k v).u3Tone = s.u3Tone := by cases k <;> rfl
@[simp] theorem setMatch0_clkOut (s : State) (k : UnitId) (v : Word) : (s.setMatch0 k v).clkOut = s.clkOut := by cases k <;> rfl
@[simp] theorem setMatch0_cfg (s : State) (k : UnitId) (v : Word) : (s.setMatch0 k v).cfg = s.cfg := by cases k <;> rfl
@[simp] theorem setMatch0_trace (s : State) (k : UnitId) (v : Word) : (s.setMatch0 k v).trace = s.trace := by cases k <;> rfl
@[simp] theorem setMatch0_out (s : State) (k : UnitId) (v : Word) : (s.setMatch0 k v).out = s.out := by cases k <;> rfl
@[simp] theorem setMatch0_epoch (s : State) (k : UnitId) (v : Word) : (s.setMatch0 k v).epoch = s.epoch := by cases k <;> rfl

/-! ## `edgeSet` -/

@[simp] theorem edgeSet_tickCnt (s : State) : (edgeSet s).tickCnt = s.tickCnt := rfl
@[simp] theorem edgeSet_slowPoll (s : State) : (edgeSet s).slowPoll = s.slowPoll := rfl
@[simp] theorem edgeSet_capEn (s : State) : (edgeSet s).capEn = s.capEn := rfl
@[simp] theorem edgeSet_pbEn (s : State) : (edgeSet s).pbEn = s.pbEn := rfl
@[simp] theorem edgeSet_putIndex (s : State) : (edgeSet s).putIndex = s.putIndex := rfl
@[simp] theorem edgeSet_fillOffset (s : State) : (edgeSet s).fillOffset = s.fillOffset := rfl
@[simp] theorem edgeSet_readyCount (s : State) : (edgeSet s).readyCount = s.readyCount := rfl
@[simp] theorem edgeSet_overrunCount (s : State) : (edgeSet s).overrunCount = s.overrunCount := rfl
@[simp] theorem edgeSet_missedCount (s : State) : (edgeSet s).missedCount = (if s.fpe then satInc counterMax s.missedCount else s.missedCount) := rfl
@[simp] theorem edgeSet_peak (s : State) : (edgeSet s).peak = s.peak := rfl
@[simp] theorem edgeSet_fpe (s : State) : (edgeSet s).fpe = true := rfl
@[simp] theorem edgeSet_pbDiv (s : State) : (edgeSet s).pbDiv = s.pbDiv := rfl
@[simp] theorem edgeSet_pool (s : State) : (edgeSet s).pool = s.pool := rfl
@[simp] theorem edgeSet_u1 (s : State) : (edgeSet s).u1 = s.u1 := rfl
@[simp] theorem edgeSet_u2 (s : State) : (edgeSet s).u2 = s.u2 := rfl
@[simp] theorem edgeSet_u3 (s : State) : (edgeSet s).u3 = s.u3 := rfl
@[simp] theorem edgeSet_u4 (s : State) : (edgeSet s).u4 = s.u4 := rfl
@[simp] theorem edgeSet_u2Match0 (s : State) : (edgeSet s).u2Match0 = s.u2Match0 := rfl
@[simp] theorem edgeSet_u3Match0 (s : State) : (edgeSet s).u3Match0 = s.u3Match0 := rfl
@[simp] theorem edgeSet_u4Match0 (s : State) : (edgeSet s).u4Match0 = s.u4Match0 := rfl
@[simp] theorem edgeSet_u3Match1 (s : State) : (edgeSet s).u3Match1 = s.u3Match1 := rfl
@[simp] theorem edgeSet_u4Match1 (s : State) : (edgeSet s).u4Match1 = s.u4Match1 := rfl
@[simp] theorem edgeSet_u3Tone (s : State) : (edgeSet s).u3Tone = s.u3Tone := rfl
@[simp] theorem edgeSet_clkOut (s : State) : (edgeSet s).clkOut = s.clkOut := rfl
@[simp] theorem edgeSet_cfg (s : State) : (edgeSet s).cfg = s.cfg := rfl
@[simp] theorem edgeSet_trace (s : State) : (edgeSet s).trace = s.trace := rfl
@[simp] theorem edgeSet_out (s : State) : (edgeSet s).out = s.out := rfl
@[simp] theorem edgeSet_epoch (s : State) : (edgeSet s).epoch = s.epoch := rfl

/-! ## `edgeClr` -/

@[simp] theorem edgeClr_tickCnt (s : State) : (edgeClr s).tickCnt = s.tickCnt := rfl
@[simp] theorem edgeClr_slowPoll (s : State) : (edgeClr s).slowPoll = s.slowPoll := rfl
@[simp] theorem edgeClr_capEn (s : State) : (edgeClr s).capEn = s.capEn := rfl
@[simp] theorem edgeClr_pbEn (s : State) : (edgeClr s).pbEn = s.pbEn := rfl
@[simp] theorem edgeClr_putIndex (s : State) : (edgeClr s).putIndex = s.putIndex := rfl
@[simp] theorem edgeClr_fillOffset (s : State) : (edgeClr s).fillOffset = s.fillOffset := rfl
@[simp] theorem edgeClr_readyCount (s : State) : (edgeClr s).readyCount = s.readyCount := rfl
@[simp] theorem edgeClr_overrunCount (s : State) : (edgeClr s).overrunCount = s.overrunCount := rfl
@[simp] theorem edgeClr_missedCount (s : State) : (edgeClr s).missedCount = s.missedCount := rfl
@[simp] theorem edgeClr_peak (s : State) : (edgeClr s).peak = s.peak := rfl
@[simp] theorem edgeClr_fpe (s : State) : (edgeClr s).fpe = false := rfl
@[simp] theorem edgeClr_pbDiv (s : State) : (edgeClr s).pbDiv = s.pbDiv := rfl
@[simp] theorem edgeClr_pool (s : State) : (edgeClr s).pool = s.pool := rfl
@[simp] theorem edgeClr_u1 (s : State) : (edgeClr s).u1 = s.u1 := rfl
@[simp] theorem edgeClr_u2 (s : State) : (edgeClr s).u2 = s.u2 := rfl
@[simp] theorem edgeClr_u3 (s : State) : (edgeClr s).u3 = s.u3 := rfl
@[simp] theorem edgeClr_u4 (s : State) : (edgeClr s).u4 = s.u4 := rfl
@[simp] theorem edgeClr_u2Match0 (s : State) : (edgeClr s).u2Match0 = s.u2Match0 := rfl
@[simp] theorem edgeClr_u3Match0 (s : State) : (edgeClr s).u3Match0 = s.u3Match0 := rfl
@[simp] theorem edgeClr_u4Match0 (s : State) : (edgeClr s).u4Match0 = s.u4Match0 := rfl
@[simp] theorem edgeClr_u3Match1 (s : State) : (edgeClr s).u3Match1 = s.u3Match1 := rfl
@[simp] theorem edgeClr_u4Match1 (s : State) : (edgeClr s).u4Match1 = s.u4Match1 := rfl
@[simp] theorem edgeClr_u3Tone (s : State) : (edgeClr s).u3Tone = s.u3Tone := rfl
@[simp] theorem edgeClr_clkOut (s : State) : (edgeClr s).clkOut = s.clkOut := rfl
@[simp] theorem edgeClr_cfg (s : State) : (edgeClr s).cfg = s.cfg := rfl
@[simp] theorem edgeClr_trace (s : State) : (edgeClr s).trace = s.trace := rfl
@[simp] theorem edgeClr_out (s : State) : (edgeClr s).out = s.out := rfl
@[simp] theorem edgeClr_epoch (s : State) : (edgeClr s).epoch = s.epoch := rfl

/-! ## `drain` -/

@[simp] theorem drain_tickCnt (s : State) : (drain s).tickCnt = s.tickCnt := rfl
@[simp] theorem drain_slowPoll (s : State) : (drain s).slowPoll = s.slowPoll := rfl
@[simp] theorem drain_capEn (s : State) : (drain s).capEn = s.capEn := rfl
@[simp] theorem drain_pbEn (s : State) : (drain s).pbEn = s.pbEn := rfl
@[simp] theorem drain_putIndex (s : State) : (drain s).putIndex = s.putIndex := rfl
@[simp] theorem drain_fillOffset (s : State) : (drain s).fillOffset = s.fillOffset := rfl
@[simp] theorem drain_readyCount (s : State) : (drain s).readyCount = decFloor0 s.readyCount := rfl
@[simp] theorem drain_overrunCount (s : State) : (drain s).overrunCount = s.overrunCount := rfl
@[simp] theorem drain_missedCount (s : State) : (drain s).missedCount = s.missedCount := rfl
@[simp] theorem drain_peak (s : State) : (drain s).peak = s.peak := rfl
@[simp] theorem drain_fpe (s : State) : (drain s).fpe = s.fpe := rfl
@[simp] theorem drain_pbDiv (s : State) : (drain s).pbDiv = s.pbDiv := rfl
@[simp] theorem drain_pool (s : State) : (drain s).pool = s.pool := rfl
@[simp] theorem drain_u1 (s : State) : (drain s).u1 = s.u1 := rfl
@[simp] theorem drain_u2 (s : State) : (drain s).u2 = s.u2 := rfl
@[simp] theorem drain_u3 (s : State) : (drain s).u3 = s.u3 := rfl
@[simp] theorem drain_u4 (s : State) : (drain s).u4 = s.u4 := rfl
@[simp] theorem drain_u2Match0 (s : State) : (drain s).u2Match0 = s.u2Match0 := rfl
@[simp] theorem drain_u3Match0 (s : State) : (drain s).u3Match0 = s.u3Match0 := rfl
@[simp] theorem drain_u4Match0 (s : State) : (drain s).u4Match0 = s.u4Match0 := rfl
@[simp] theorem drain_u3Match1 (s : State) : (drain s).u3Match1 = s.u3Match1 := rfl
@[simp] theorem drain_u4Match1 (s : State) : (drain s).u4Match1 = s.u4Match1 := rfl
@[simp] theorem drain_u3Tone (s : State) : (drain s).u3Tone = s.u3Tone := rfl
@[simp] theorem drain_clkOut (s : State) : (drain s).clkOut = s.clkOut := rfl
@[simp] theorem drain_cfg (s : State) : (drain s).cfg = s.cfg := rfl
@[simp] theorem drain_trace (s : State) : (drain s).trace = s.trace := rfl
@[simp] theorem drain_out (s : State) : (drain s).out = s.out := rfl
@[simp] theorem drain_epoch (s : State) : (drain s).epoch = s.epoch := rfl

/-! ## `advancePut` -/

@[simp] theorem advancePut_tickCnt (s : State) : (advancePut s).tickCnt = s.tickCnt := rfl
@[simp] theorem advancePut_slowPoll (s : State) : (advancePut s).slowPoll = s.slowPoll := rfl
@[simp] theorem advancePut_capEn (s : State) : (advancePut s).capEn = s.capEn := rfl
@[simp] theorem advancePut_pbEn (s : State) : (advancePut s).pbEn = s.pbEn := rfl
@[simp] theorem advancePut_putIndex (s : State) : (advancePut s).putIndex = (if s.putIndex.toNat < s.cfg.bufCount - 1 then s.putIndex + 1 else 0) := rfl
@[simp] theorem advancePut_fillOffset (s : State) : (advancePut s).fillOffset = s.fillOffset := rfl
@[simp] theorem advancePut_readyCount (s : State) : (advancePut s).readyCount = s.readyCount := rfl
@[simp] theorem advancePut_overrunCount (s : State) : (advancePut s).overrunCount = s.overrunCount := rfl
@[simp] theorem advancePut_missedCount (s : State) : (advancePut s).missedCount = s.missedCount := rfl
@[simp] theorem advancePut_peak (s : State) : (advancePut s).peak = s.peak := rfl
@[simp] theorem advancePut_fpe (s : State) : (advancePut s).fpe = s.fpe := rfl
@[simp] theorem advancePut_pbDiv (s : State) : (advancePut s).pbDiv = s.pbDiv := rfl
@[simp] theorem advancePut_pool (s : State) : (advancePut s).pool = s.pool := rfl
@[simp] theorem advancePut_u1 (s : State) : (advancePut s).u1 = s.u1 := rfl
@[simp] theorem advancePut_u2 (s : State) : (advancePut s).u2 = s.u2 := rfl
@[simp] theorem advancePut_u3 (s : State) : (advancePut s).u3 = s.u3 := rfl
@[simp] theorem advancePut_u4 (s : State) : (advancePut s).u4 = s.u4 := rfl
@[simp] theorem advancePut_u2Match0 (s : State) : (advancePut s).u2Match0 = s.u2Match0 := rfl
@[simp] theorem advancePut_u3Match0 (s : State) : (advancePut s).u3Match0 = s.u3Match0 := rfl
@[simp] theorem advancePut_u4Match0 (s : State) : (advancePut s).u4Match0 = s.u4Match0 := rfl
@[simp] theorem advancePut_u3Match1 (s : State) : (advancePut s).u3Match1 = s.u3Match1 := rfl
@[simp] theorem advancePut_u4Match1 (s : State) : (advancePut s).u4Match1 = s.u4Match1 := rfl
@[simp] theorem advancePut_u3Tone (s : State) : (advancePut s).u3Tone = s.u3Tone := rfl
@[simp] theorem advancePut_clkOut (s : State) : (advancePut s).clkOut = s.clkOut := rfl
@[simp] theorem advancePut_cfg (s : State) : (advancePut s).cfg = s.cfg := rfl
@[simp] theorem advancePut_trace (s : State) : (advancePut s).trace = s.trace := rfl
@[simp] theorem advancePut_out (s : State) : (advancePut s).out = s.out := rfl
@[simp] theorem advancePut_epoch (s : State) : (advancePut s).epoch = s.epoch := rfl

/-! ## `storeSample` -/

@[simp] theorem storeSample_tickCnt (v : Byte) (s : State) : (storeSample v s).tickCnt = s.tickCnt := rfl
@[simp] theorem storeSample_slowPoll (v : Byte) (s : State) : (storeSample v s).slowPoll = s.slowPoll := rfl
@[simp] theorem storeSample_capEn (v : Byte) (s : State) : (storeSample v s).capEn = s.capEn := rfl
@[simp] theorem storeSample_pbEn (v : Byte) (s : State) : (storeSample v s).pbEn = s.pbEn := rfl
@[simp] theorem storeSample_putIndex (v : Byte) (s : State) : (storeSample v s).putIndex = s.putIndex := rfl
@[simp] theorem storeSample_fillOffset (v : Byte) (s : State) : (storeSample v s).fillOffset = s.fillOffset := rfl
@[simp] theorem storeSample_readyCount (v : Byte) (s : State) : (storeSample v s).readyCount = s.readyCount := rfl
@[simp] theorem storeSample_overrunCount (v : Byte) (s : State) : (storeSample v s).overrunCount = s.overrunCount := rfl
@[simp] theorem storeSample_missedCount (v : Byte) (s : State) : (storeSample v s).missedCount = s.missedCount := rfl
@[simp] theorem storeSample_peak (v : Byte) (s : State) : (storeSample v s).peak = s.peak := rfl
@[simp] theorem storeSample_fpe (v : Byte) (s : State) : (storeSample v s).fpe = s.fpe := rfl
@[simp] theorem storeSample_pbDiv (v : Byte) (s : State) : (storeSample v s).pbDiv = s.pbDiv := rfl
@[simp] theorem storeSample_pool (v : Byte) (s : State) : (storeSample v s).pool = s.pool.write (windowAddr s.putIndex.toNat s.fillOffset.toNat) v := rfl
@[simp] theorem storeSample_u1 (v : Byte) (s : State) : (storeSample v s).u1 = s.u1 := rfl
@[simp] theorem storeSample_u2 (v : Byte) (s : State) : (storeSample v s).u2 = s.u2 := rfl
@[simp] theorem storeSample_u3 (v : Byte) (s : State) : (storeSample v s).u3 = s.u3 := rfl
@[simp] theorem storeSample_u4 (v : Byte) (s : State) : (storeSample v s).u4 = s.u4 := rfl
@[simp] theorem storeSample_u2Match0 (v : Byte) (s : State) : (storeSample v s).u2Match0 = s.u2Match0 := rfl
@[simp] theorem storeSample_u3Match0 (v : Byte) (s : State) : (storeSample v s).u3Match0 = s.u3Match0 := rfl
@[simp] theorem storeSample_u4Match0 (v : Byte) (s : State) : (storeSample v s).u4Match0 = s.u4Match0 := rfl
@[simp] theorem storeSample_u3Match1 (v : Byte) (s : State) : (storeSample v s).u3Match1 = s.u3Match1 := rfl
@[simp] theorem storeSample_u4Match1 (v : Byte) (s : State) : (storeSample v s).u4Match1 = s.u4Match1 := rfl
@[simp] theorem storeSample_u3Tone (v : Byte) (s : State) : (storeSample v s).u3Tone = s.u3Tone := rfl
@[simp] theorem storeSample_clkOut (v : Byte) (s : State) : (storeSample v s).clkOut = s.clkOut := rfl
@[simp] theorem storeSample_cfg (v : Byte) (s : State) : (storeSample v s).cfg = s.cfg := rfl
@[simp] theorem storeSample_trace (v : Byte) (s : State) : (storeSample v s).trace = s.trace := rfl
@[simp] theorem storeSample_out (v : Byte) (s : State) : (storeSample v s).out = s.out := rfl
@[simp] theorem storeSample_epoch (v : Byte) (s : State) : (storeSample v s).epoch = s.epoch := rfl

/-! ## `updatePeak` -/

@[simp] theorem updatePeak_tickCnt (v : Byte) (s : State) : (updatePeak v s).tickCnt = s.tickCnt := rfl
@[simp] theorem updatePeak_slowPoll (v : Byte) (s : State) : (updatePeak v s).slowPoll = s.slowPoll := rfl
@[simp] theorem updatePeak_capEn (v : Byte) (s : State) : (updatePeak v s).capEn = s.capEn := rfl
@[simp] theorem updatePeak_pbEn (v : Byte) (s : State) : (updatePeak v s).pbEn = s.pbEn := rfl
@[simp] theorem updatePeak_putIndex (v : Byte) (s : State) : (updatePeak v s).putIndex = s.putIndex := rfl
@[simp] theorem updatePeak_fillOffset (v : Byte) (s : State) : (updatePeak v s).fillOffset = s.fillOffset := rfl
@[simp] theorem updatePeak_readyCount (v : Byte) (s : State) : (updatePeak v s).readyCount = s.readyCount := rfl
@[simp] theorem updatePeak_overrunCount (v : Byte) (s : State) : (updatePeak v s).overrunCount = s.overrunCount := rfl
@[simp] theorem updatePeak_missedCount (v : Byte) (s : State) : (updatePeak v s).missedCount = s.missedCount := rfl
@[simp] theorem updatePeak_peak (v : Byte) (s : State) : (updatePeak v s).peak = (if s.peak < v then v else s.peak) := rfl
@[simp] theorem updatePeak_fpe (v : Byte) (s : State) : (updatePeak v s).fpe = s.fpe := rfl
@[simp] theorem updatePeak_pbDiv (v : Byte) (s : State) : (updatePeak v s).pbDiv = s.pbDiv := rfl
@[simp] theorem updatePeak_pool (v : Byte) (s : State) : (updatePeak v s).pool = s.pool := rfl
@[simp] theorem updatePeak_u1 (v : Byte) (s : State) : (updatePeak v s).u1 = s.u1 := rfl
@[simp] theorem updatePeak_u2 (v : Byte) (s : State) : (updatePeak v s).u2 = s.u2 := rfl
@[simp] theorem updatePeak_u3 (v : Byte) (s : State) : (updatePeak v s).u3 = s.u3 := rfl
@[simp] theorem updatePeak_u4 (v : Byte) (s : State) : (updatePeak v s).u4 = s.u4 := rfl
@[simp] theorem updatePeak_u2Match0 (v : Byte) (s : State) : (updatePeak v s).u2Match0 = s.u2Match0 := rfl
@[simp] theorem updatePeak_u3Match0 (v : Byte) (s : State) : (updatePeak v s).u3Match0 = s.u3Match0 := rfl
@[simp] theorem updatePeak_u4Match0 (v : Byte) (s : State) : (updatePeak v s).u4Match0 = s.u4Match0 := rfl
@[simp] theorem updatePeak_u3Match1 (v : Byte) (s : State) : (updatePeak v s).u3Match1 = s.u3Match1 := rfl
@[simp] theorem updatePeak_u4Match1 (v : Byte) (s : State) : (updatePeak v s).u4Match1 = s.u4Match1 := rfl
@[simp] theorem updatePeak_u3Tone (v : Byte) (s : State) : (updatePeak v s).u3Tone = s.u3Tone := rfl
@[simp] theorem updatePeak_clkOut (v : Byte) (s : State) : (updatePeak v s).clkOut = s.clkOut := rfl
@[simp] theorem updatePeak_cfg (v : Byte) (s : State) : (updatePeak v s).cfg = s.cfg := rfl
@[simp] theorem updatePeak_trace (v : Byte) (s : State) : (updatePeak v s).trace = s.trace := rfl
@[simp] theorem updatePeak_out (v : Byte) (s : State) : (updatePeak v s).out = s.out := rfl
@[simp] theorem updatePeak_epoch (v : Byte) (s : State) : (updatePeak v s).epoch = s.epoch := rfl

end Sys2Proof.Machine
end

