-- ==== Sys2Proof/Laws/Step.lean ====
section
/-! SUPPORT. The laws of a step and of a run of operations: a step takes one operation from the trace, and
no operation reads or writes the rest of the trace. -/

namespace Sys2Proof.Machine

open Sys2Proof

/-- The same state under another schedule. -/
def State.withTrace (s : State) (l : List OpWord) : State := { s with trace := l }

/-- The same outcome with its next state under another schedule. -/
def withTraceOutcome (l : List OpWord) :
    Host.Outcome State Fault Refusal → Host.Outcome State Fault Refusal
  | .next t => .next (t.withTrace l)
  | .fault f => .fault f
  | .refused r => .refused r

theorem step_cons (s : State) (w : OpWord) (rest : List OpWord) (h : s.trace = w :: rest) :
    step s = exec (decode w) (s.withTrace rest) := by
  unfold step
  rw [h]
  rfl

theorem step_nil (s : State) (h : s.trace = []) : step s = .fault .traceEnded := by
  unfold step
  rw [h]

/-- The word placed where `step` fetches is the next operation performed. -/
theorem step_withFetchWord (s : State) (nbits w : Nat) :
    step (s.withFetchWord nbits w) = exec (decode (opWordOfTable nbits w)) s := rfl

@[simp] theorem runOps_nil (s : State) : runOps [] s = .next s := rfl

theorem runOps_cons (i : Instr) (is : List Instr) (s t : State) (h : exec i s = .next t) :
    runOps (i :: is) s = runOps is t := by
  simp only [runOps, h]

theorem runOps_singleton (i : Instr) (s : State) : runOps [i] s = exec i s := by
  simp only [runOps]
  cases exec i s <;> rfl

/-- A run of two lists is the second run from where the first ends. -/
theorem runOps_append (is js : List Instr) (s t : State) (h : runOps is s = .next t) :
    runOps (is ++ js) s = runOps js t := by
  induction is generalizing s with
  | nil => rw [Host.Outcome.next.inj h]; rfl
  | cons i is ih =>
    rw [List.cons_append]
    simp only [runOps] at h ⊢
    cases hx : exec i s with
    | next u => rw [hx] at h; exact ih u h
    | fault f => rw [hx] at h; cases h
    | refused r => rw [hx] at h; cases h

end Sys2Proof.Machine
end

