-- ==== Sys2Proof/Laws/HostSequences.lean ====
section
/-! SUPPORT. The laws of a host sequence under a schedule: what one entry of the schedule does, and a fixed list
of operations with nothing between them. -/

namespace Sys2Proof.Machine

open Sys2Proof

@[simp] theorem issues_nil (q : HostSeq) : HostSeq.issues [] q = q := rfl

@[simp] theorem issues_cons (op : Instr) (ops : List Instr) (q : HostSeq) :
    HostSeq.issues (op :: ops) q = .issue op (.issues ops q) := rfl

/-- A schedule that is over leaves the sequence where it is. -/
@[simp] theorem runHost_nil (q : HostSeq) (s : State) : runHost [] q s = .next (s, q) := by
  unfold runHost
  rfl

/-- A sequence that is over stays over and performs nothing. -/
@[simp] theorem runHost_done (sched : List (List Instr)) (s : State) :
    runHost sched .done s = .next (s, .done) := by
  cases sched with
  | nil => exact runHost_nil _ _
  | cons events sched => simp only [runHost, HostSeq.op]

/-- One entry: its events, then the next operation of the sequence, which goes on from the value read. -/
theorem runHost_cons (events : List Instr) (sched : List (List Instr)) (q : HostSeq) (op : Instr)
    (s t : State) (hop : q.op = some op) (h : runOps (events ++ [op]) s = .next t) :
    runHost (events :: sched) q s = runHost sched (q.after (t.out.rdata.getD 0)) t := by
  simp only [runHost, hop, h]

/-- One entry without events. -/
theorem runHost_alone (sched : List (List Instr)) (q : HostSeq) (op : Instr) (s t : State)
    (hop : q.op = some op) (h : exec op s = .next t) :
    runHost ([] :: sched) q s = runHost sched (q.after (t.out.rdata.getD 0)) t :=
  runHost_cons [] sched q op s t hop ((runOps_singleton op s).trans h)

/-- A fault of the operation ends the run. -/
theorem runHost_alone_fault (sched : List (List Instr)) (q : HostSeq) (op : Instr) (s : State)
    (f : Fault) (hop : q.op = some op) (h : exec op s = .fault f) :
    runHost ([] :: sched) q s = .fault f := by
  simp only [runHost, hop, List.nil_append, runOps_singleton, h]

/-- A fixed list of operations with nothing between them is a run of the list. -/
theorem runHost_issues (ops : List Instr) (sched : List (List Instr)) (q : HostSeq) (s t : State)
    (h : runOps ops s = .next t) :
    runHost (List.replicate ops.length [] ++ sched) (.issues ops q) s = runHost sched q t := by
  induction ops generalizing s with
  | nil => rw [Host.Outcome.next.inj h]; rfl
  | cons op ops ih =>
    simp only [runOps] at h
    cases hx : exec op s with
    | next u =>
      rw [hx] at h
      rw [List.length_cons, List.replicate_succ, List.cons_append, issues_cons,
        runHost_alone _ _ op s u rfl hx]
      exact ih u h
    | fault f => rw [hx] at h; cases h
    | refused r => rw [hx] at h; cases h

/-- The poll of `wait n`: the wait is over exactly where the value read has reached `n` (R205). -/
theorem runHost_waitPoll (events : List Instr) (sched : List (List Instr)) (n : Word) (q : HostSeq)
    (s t : State) (h : runOps events s = .next t) :
    runHost (events :: sched) (.waitPoll n q) s =
      runHost sched (if n ≤ t.tickCnt then q else .waitPoll n q) (t.answer t.tickCnt) := by
  have hr : runOps (events ++ [.rdTickCnt]) s = .next (t.answer t.tickCnt) := by
    rw [runOps_append _ _ _ _ h, runOps_singleton]
    rfl
  rw [runHost_cons _ _ _ _ _ _ rfl hr]
  by_cases hn : n ≤ t.tickCnt <;> simp [HostSeq.after, waitDone, State.answer, Output.returned, hn]

end Sys2Proof.Machine
end

