-- ==== Sys2Proof/Laws/Memory.lean ====
section
/-! SUPPORT. The laws of the buffer pool: a store is read back, leaves every other byte alone, keeps the
canonical form and adds no other address; pools in canonical form that read alike are equal. -/

namespace Sys2Proof.Machine

open Sys2Proof

@[simp] theorem memory_read_nil (a : Nat) : Memory.read [] a = none := rfl

theorem memory_read_cons (c : Host.Cell) (m : Memory) (a : Nat) :
    Memory.read (c :: m) a = if c.1 = a then some c.2 else Memory.read m a := rfl

theorem memory_write_cons (c : Host.Cell) (m : Memory) (a : Nat) (v : Byte) :
    Memory.write (c :: m) a v =
      if a < c.1 then (a, v) :: c :: m
      else if c.1 = a then (a, v) :: m
      else c :: Memory.write m a v := rfl

/-- A store is read back. -/
@[simp] theorem memory_read_write_same (m : Memory) (a : Nat) (v : Byte) :
    (m.write a v).read a = some v := by
  induction m with
  | nil => simp [Memory.write, Memory.read]
  | cons c m ih =>
    rw [memory_write_cons]
    split
    · simp [Memory.read]
    · split
      · simp [Memory.read]
      · rename_i h
        rw [memory_read_cons, if_neg h, ih]

/-- A store leaves every other byte alone. -/
theorem memory_read_write_other (m : Memory) (a b : Nat) (v : Byte) (h : b ≠ a) :
    (m.write a v).read b = m.read b := by
  induction m with
  | nil => simp [Memory.write, Memory.read, Ne.symm h]
  | cons c m ih =>
    rw [memory_write_cons]
    split
    · simp [memory_read_cons, Ne.symm h]
    · split
      · rename_i hc
        have hcb : c.1 ≠ b := fun e => h (by omega)
        simp [memory_read_cons, Ne.symm h, hcb]
      · rw [memory_read_cons, memory_read_cons, ih]

/-- A store adds no address but its own. -/
theorem memory_mem_write (m : Memory) (a : Nat) (v : Byte) (c : Host.Cell)
    (h : c ∈ m.write a v) : c = (a, v) ∨ c ∈ m := by
  induction m with
  | nil => simpa [Memory.write] using h
  | cons d m ih =>
    rw [memory_write_cons] at h
    split at h
    · simpa using h
    · split at h
      · rcases List.mem_cons.mp h with h | h
        · exact .inl h
        · exact .inr (List.mem_cons_of_mem _ h)
      · rcases List.mem_cons.mp h with h | h
        · exact .inr (h ▸ List.mem_cons_self)
        · exact (ih h).imp id (List.mem_cons_of_mem _)

/-- A store keeps the canonical form. -/
theorem memory_write_wf (m : Memory) (a : Nat) (v : Byte) (h : Memory.wf m) :
    Memory.wf (m.write a v) := by
  induction m with
  | nil => simp [Memory.write]
  | cons c m ih =>
    obtain ⟨hc, hm⟩ := List.pairwise_cons.mp h
    rw [memory_write_cons]
    split
    · rename_i hlt
      exact List.pairwise_cons.mpr ⟨fun d hd => by
        rcases List.mem_cons.mp hd with rfl | hd
        · exact hlt
        · exact lt_trans hlt (hc d hd), h⟩
    · split
      · rename_i heq
        exact List.pairwise_cons.mpr ⟨fun d hd => heq ▸ hc d hd, hm⟩
      · rename_i hge hne
        exact List.pairwise_cons.mpr ⟨fun d hd => by
          rcases memory_mem_write m a v d hd with rfl | hd
          · exact lt_of_le_of_ne (Nat.le_of_not_lt hge) hne
          · exact hc d hd, ih hm⟩

/-- The empty pool has the canonical form. -/
theorem memory_wf_nil : Memory.wf [] := List.Pairwise.nil

/-- Below every listed address nothing is written. -/
theorem memory_read_below (m : Memory) (a : Nat) (h : ∀ c ∈ m, a < c.1) : m.read a = none := by
  induction m with
  | nil => rfl
  | cons c m ih =>
    rw [memory_read_cons, if_neg (Nat.ne_of_gt (h c List.mem_cons_self)),
      ih fun d hd => h d (List.mem_cons_of_mem _ hd)]

/-- Pools in canonical form that read alike at every address are equal: equal memories are equal data. -/
theorem memory_ext (m n : Memory) (hm : Memory.wf m) (hn : Memory.wf n)
    (h : ∀ a, m.read a = n.read a) : m = n := by
  induction m generalizing n with
  | nil =>
    cases n with
    | nil => rfl
    | cons d n =>
      have := h d.1
      simp [memory_read_cons] at this
  | cons c m ih =>
    obtain ⟨hc, hm'⟩ := List.pairwise_cons.mp hm
    cases n with
    | nil =>
      have := h c.1
      simp [memory_read_cons] at this
    | cons d n =>
      obtain ⟨hd, hn'⟩ := List.pairwise_cons.mp hn
      have key : c.1 = d.1 := by
        rcases Nat.lt_trichotomy c.1 d.1 with hlt | heq | hgt
        · have h1 := h c.1
          rw [memory_read_below (d :: n) c.1 (fun e he => by
            rcases List.mem_cons.mp he with rfl | he
            · exact hlt
            · exact lt_trans hlt (hd e he)), memory_read_cons, if_pos rfl] at h1
          cases h1
        · exact heq
        · have h1 := h d.1
          rw [memory_read_below (c :: m) d.1 (fun e he => by
            rcases List.mem_cons.mp he with rfl | he
            · exact hgt
            · exact lt_trans hgt (hc e he)), memory_read_cons, if_pos rfl] at h1
          cases h1
      have h2 := h c.1
      rw [memory_read_cons, memory_read_cons, if_pos rfl, if_pos key.symm] at h2
      have hcd : c = d := Prod.ext key (Option.some.inj h2)
      subst hcd
      rw [ih n hm' hn' fun a => ?_]
      have h3 := h a
      rw [memory_read_cons, memory_read_cons] at h3
      by_cases ha : c.1 = a
      · subst ha
        rw [memory_read_below m c.1 hc, memory_read_below n c.1 hd]
      · rwa [if_neg ha, if_neg ha] at h3

/-! ## The bytes of the window -/

/-- A written byte of the window holds its written value. -/
theorem bufByte_written (s : State) (a : Nat) (v : Byte) (h : s.pool.read a = some v) :
    s.bufByte a = v := by
  simp [State.bufByte, h]

/-- An unwritten byte of the window holds its free value. -/
theorem bufByte_unwritten (s : State) (a : Nat) (h : s.pool.read a = none) :
    s.bufByte a = Config.freeByte s.epoch a := by
  simp [State.bufByte, h]

/-- A byte of the window depends on the pool and the epoch alone. -/
theorem bufByte_congr (s t : State) (hp : t.pool = s.pool) (he : t.epoch = s.epoch) (a : Nat) :
    t.bufByte a = s.bufByte a := by
  simp [State.bufByte, hp, he]

/-- The bits of a word of the window: byte `j / 8`, lowest address first (`20_memory` R63). -/
theorem bufWord_getLsbD (s : State) (a j : Nat) :
    (s.bufWord a).getLsbD j =
      if j < 8 then (s.bufByte a).getLsbD j
      else if j - 8 < 8 then (s.bufByte (a + 1)).getLsbD (j - 8)
      else if j - 8 - 8 < 8 then (s.bufByte (a + 2)).getLsbD (j - 8 - 8)
      else (s.bufByte (a + 3)).getLsbD (j - 8 - 8 - 8) := by
  have h : (s.bufWord a).getLsbD j =
      (s.bufByte (a + 3) ++ (s.bufByte (a + 2) ++ (s.bufByte (a + 1) ++ s.bufByte a))).getLsbD j :=
    rfl
  rw [h, BitVec.getLsbD_append, BitVec.getLsbD_append, BitVec.getLsbD_append]
  split_ifs <;> first | rfl | omega

/-- The byte lanes of a word of the window, the lowest address in bits 7:0 (`20_memory` R63). -/
theorem bufWord_lane (s : State) (a i : Nat) (hi : i < 4) :
    (s.bufWord a).extractLsb' (8 * i) 8 = s.bufByte (a + i) := by
  refine BitVec.eq_of_getLsbD_eq fun j hj => ?_
  rw [BitVec.getLsbD_extractLsb', bufWord_getLsbD]
  interval_cases i
  · rw [if_pos (by omega)]; simp [hj]
  · rw [if_neg (by omega), if_pos (by omega)]; simp [hj, show 8 + j - 8 = j by omega]
  · rw [if_neg (by omega), if_neg (by omega), if_pos (by omega)]
    simp [hj, show 16 + j - 8 - 8 = j by omega]
  · rw [if_neg (by omega), if_neg (by omega), if_neg (by omega)]
    simp [hj, show 24 + j - 8 - 8 - 8 = j by omega]

/-- A word of the window depends on the pool and the epoch alone. -/
theorem bufWord_congr (s t : State) (hp : t.pool = s.pool) (he : t.epoch = s.epoch) (a : Nat) :
    t.bufWord a = s.bufWord a := by
  simp [State.bufWord, bufByte_congr s t hp he]

end Sys2Proof.Machine
end

