-- ==== Sys2Proof/Laws/Ops.lean ====
section
/-! SUPPORT. For each shared operation one lemma that says once everything it can do; proofs cite these
and never unfold the operation. -/

namespace Sys2Proof.Machine

open Sys2Proof

/-! ## Arithmetic (`00_scope` R10) -/

/-- `sat_inc` as numbers. -/
theorem satInc_toNat (c v : Word) :
    (satInc c v).toNat = if v.toNat < c.toNat then v.toNat + 1 else v.toNat := by
  unfold satInc
  by_cases h : v.toNat < c.toNat
  · rw [if_pos (BitVec.lt_def.mpr h), if_pos h, BitVec.toNat_add]
    have := c.isLt
    have h1 : (1 : Word).toNat = 1 := rfl
    omega
  · rw [if_neg (fun hl => h (BitVec.lt_def.mp hl)), if_neg h]

/-- `sat_inc` stays under its ceiling. -/
theorem satInc_le (c v : Word) (h : v ≤ c) : satInc c v ≤ c := by
  have h' := BitVec.le_def.mp h
  rw [BitVec.le_def, satInc_toNat]
  split <;> omega

/-- `sat_inc` never goes down. -/
theorem le_satInc (c v : Word) : v.toNat ≤ (satInc c v).toNat := by
  rw [satInc_toNat]
  split <;> omega

/-- The diagnostic counters go up by one and stay at `2^32-1`. -/
theorem satInc_counterMax (v : Word) : satInc counterMax v = bump v := by
  unfold satInc bump counterMax
  by_cases h : v = 0xFFFFFFFF#32
  · subst h; decide
  · rw [if_neg h, if_pos]
    rw [BitVec.lt_def]
    have h1 : v.toNat ≠ (0xFFFFFFFF#32).toNat := fun e => h (BitVec.eq_of_toNat_eq e)
    have h2 := v.isLt
    simp only [BitVec.toNat_ofNat] at h1 ⊢
    omega

/-- `bump` as numbers. -/
theorem bump_toNat (v : Word) : (bump v).toNat = min (v.toNat + 1) (2 ^ 32 - 1) := by
  rw [← satInc_counterMax, satInc_toNat]
  have h := v.isLt
  simp only [counterMax, BitVec.toNat_ofNat]
  split <;> omega

/-- `dec_floor0` as numbers. -/
theorem decFloor0_toNat {n : Nat} (v : BitVec n) : (decFloor0 v).toNat = v.toNat - 1 := by
  unfold decFloor0
  by_cases h : 0 < v
  · have h0 : 0 < v.toNat := by simpa [BitVec.lt_def] using h
    have hv := v.isLt
    have h2 : (1 : Nat) < 2 ^ n := by omega
    have h1 : (1 : BitVec n).toNat = 1 := (BitVec.toNat_ofNat 1 n).trans (Nat.mod_eq_of_lt h2)
    rw [if_pos h, BitVec.toNat_sub_of_le (by rw [BitVec.le_def, h1]; omega), h1]
  · have h0 : v.toNat = 0 := by
      have h2 : ¬ (0 : BitVec n).toNat < v.toNat := fun hl => h (BitVec.lt_def.mpr hl)
      rw [show (0 : BitVec n).toNat = 0 from (BitVec.toNat_ofNat 0 n).trans (Nat.zero_mod _)] at h2
      omega
    rw [if_neg h, h0]
    exact (BitVec.toNat_ofNat 0 n).trans (Nat.zero_mod _)

/-- `dec_floor0` stays under any bound. -/
theorem decFloor0_le (v : Word) : (decFloor0 v).toNat ≤ v.toNat := by
  rw [decFloor0_toNat]
  exact Nat.sub_le _ _

/-! ## The timer units by index -/

@[simp] theorem unit_setUnit_same (s : State) (k : UnitId) (u : TimerUnit) :
    (s.setUnit k u).unit k = u := by cases k <;> rfl

theorem unit_setUnit_other (s : State) (k j : UnitId) (u : TimerUnit) (h : j ≠ k) :
    (s.setUnit k u).unit j = s.unit j := by
  cases k <;> cases j <;> first | rfl | exact absurd rfl h

@[simp] theorem match0_setUnit (s : State) (k j : UnitId) (u : TimerUnit) :
    (s.setUnit k u).match0 j = s.match0 j := by cases k <;> cases j <;> rfl

@[simp] theorem match1_setUnit (s : State) (k j : UnitId) (u : TimerUnit) :
    (s.setUnit k u).match1 j = s.match1 j := by cases k <;> cases j <;> rfl

/-! ## The Frame Pacing Edge (`43_frame_pacing` R190, R192) -/

/-- One sample period of the playback source. -/
theorem paceStep_eq (s : State) :
    paceStep s = { s with
      pbDiv := if s.pbDiv = 511#9 then 0 else s.pbDiv + 1
      fpe := s.fpe || decide (s.pbDiv = 511#9)
      missedCount :=
        if s.pbDiv = 511#9 ∧ s.fpe = true then bump s.missedCount else s.missedCount } := by
  unfold paceStep edgeSet
  by_cases h : s.pbDiv = 511#9
  · simp [h, satInc_counterMax]
  · simp [h]

/-! ## Counting (`41_timer_units` R121 to R128) -/

/-- The sample-period edge of unit 3. -/
theorem samplePeriodEdge_eq (s : State) :
    samplePeriodEdge s =
      if s.u3Tone = true then s
      else
        if s.pbEn = true then paceStep (if s.capEn = true then s.emitTrigger else s)
        else if s.capEn = true then s.emitTrigger else s := by
  unfold samplePeriodEdge
  cases s.u3Tone <;> cases hc : s.capEn <;> cases hp : s.pbEn <;> simp [hc, hp, State.emitTrigger]

/-- Unit 1 under one `CLK`. -/
theorem clockUnit_u1 (s : State) : clockUnit .u1 s = { s with u1 := runFree s.u1 } := by
  unfold clockUnit prescaleStep countTick runFree
  simp only [State.unit, State.setUnit]
  rcases Bool.eq_false_or_eq_true s.u1.en with he | he
  rotate_left
  · simp [he]
  · by_cases hp : s.u1.prescale ≤ s.u1.psc <;> simp [hp, he]

/-- Unit 4 under one `CLK`. -/
theorem clockUnit_u4 (s : State) :
    clockUnit .u4 s = { s with u4 := runToMatch s.u4Match0 s.u4 } := by
  unfold clockUnit prescaleStep countTick countToMatch runToMatch matchAction
  simp only [State.unit, State.setUnit, State.match0]
  rcases Bool.eq_false_or_eq_true s.u4.en with he | he
  rotate_left
  · simp [he]
  · by_cases hp : s.u4.prescale ≤ s.u4.psc
    · by_cases hm : s.u4Match0 ≤ s.u4.count <;> simp [hp, hm, he]
    · simp [hp, he]

/-- Unit 2 under one `CLK`: its match toggles the pin. -/
theorem clockUnit_u2 (s : State) :
    clockUnit .u2 s = { s with
      u2 := runToMatch s.u2Match0 s.u2
      clkOut := if matchesNow s.u2Match0 s.u2 then !s.clkOut else s.clkOut } := by
  unfold clockUnit prescaleStep countTick countToMatch runToMatch matchAction matchesNow
  simp only [State.unit, State.setUnit, State.match0]
  rcases Bool.eq_false_or_eq_true s.u2.en with he | he
  rotate_left
  · simp [he]
  · by_cases hp : s.u2.prescale ≤ s.u2.psc
    · by_cases hm : s.u2Match0 ≤ s.u2.count <;> simp [hp, hm, he]
    · simp [hp, he]

/-- Unit 3 under one `CLK`: its match is the sample-period edge. -/
theorem clockUnit_u3 (s : State) :
    clockUnit .u3 s =
      if matchesNow s.u3Match0 s.u3 then
        samplePeriodEdge { s with u3 := runToMatch s.u3Match0 s.u3 }
      else { s with u3 := runToMatch s.u3Match0 s.u3 } := by
  unfold clockUnit prescaleStep countTick countToMatch runToMatch matchAction matchesNow
  simp only [State.unit, State.setUnit, State.match0]
  rcases Bool.eq_false_or_eq_true s.u3.en with he | he
  rotate_left
  · simp [he]
  · by_cases hp : s.u3.prescale ≤ s.u3.psc
    · by_cases hm : s.u3Match0 ≤ s.u3.count <;> simp [hp, hm, he]
    · simp [hp, he]

/-! ## Register writes by unit index (`41_timer_units` R130 to R133) -/

/-- `CTRL`: clear if asked, then arm or disarm; unit 2's pin goes low with the clear. -/
theorem writeCtrl_eq (k : UnitId) (w : Word) (s : State) :
    writeCtrl k w s = { s.setUnit k { s.unit k with
        en := fieldEn w
        count := if fieldClr w then 0 else (s.unit k).count
        psc := if fieldClr w then 0 else (s.unit k).psc } with
      clkOut := if fieldClr w = true ∧ k = .u2 then false else s.clkOut } := by
  unfold writeCtrl clearUnit
  cases hw : fieldClr w <;> cases k <;>
    simp [State.setUnit, State.unit, TimerUnit.clear]

/-- The output `clk_out` of an armed unit 2 is the stored bit. -/
theorem clkOutLevel_armed (s : State) (h : s.u2.en = true) : clkOutLevel s = s.clkOut := by
  simp [clkOutLevel, h]

/-- The output `clk_out` of a disarmed unit 2 is 0. -/
theorem clkOutLevel_disarmed (s : State) (h : s.u2.en = false) : clkOutLevel s = false := by
  simp [clkOutLevel, h]

/-- `PRESCALE`: where it answers a state, the unit was disarmed and only its prescaler changed. -/
theorem writePrescale_next (k : UnitId) (w : Word) (s t : State) (h : writePrescale k w s = .next t) :
    (s.unit k).en = false ∧ t = s.quiet.setUnit k { s.unit k with prescale := w } := by
  unfold writePrescale at h
  split at h
  · cases h
  · rename_i he
    exact ⟨by simpa using he, (Host.Outcome.next.inj h).symm⟩

/-- `MATCH0`: where it answers a state, the unit was disarmed and only its `MATCH0` changed. -/
theorem writeMatch0_next (k : UnitId) (w : Word) (s t : State) (h : writeMatch0 k w s = .next t) :
    (s.unit k).en = false ∧ t = s.quiet.setMatch0 k w := by
  unfold writeMatch0 at h
  split at h
  · cases h
  · rename_i he
    exact ⟨by simpa using he, (Host.Outcome.next.inj h).symm⟩

/-! ## The producer (`42_audio_pipeline` R160 to R168) -/

/-- A completion counts as ready, or as an overrun at the ceiling. -/
theorem countCompletion_eq (s : State) :
    countCompletion s = { s with
      readyCount :=
        if s.readyCount.toNat < s.cfg.bufCount - 1 then s.readyCount + 1 else s.readyCount
      overrunCount :=
        if s.readyCount.toNat < s.cfg.bufCount - 1 then s.overrunCount
        else bump s.overrunCount } := by
  unfold countCompletion
  split <;> simp [satInc_counterMax]

/-- Everything a completion does. -/
theorem completeBuffer_eq (s : State) :
    completeBuffer s = { s with
      fillOffset := 0
      peak := 0
      fpe := true
      missedCount := if s.fpe then bump s.missedCount else s.missedCount
      readyCount :=
        if s.readyCount.toNat < s.cfg.bufCount - 1 then s.readyCount + 1 else s.readyCount
      overrunCount :=
        if s.readyCount.toNat < s.cfg.bufCount - 1 then s.overrunCount else bump s.overrunCount
      putIndex := if s.putIndex.toNat < s.cfg.bufCount - 1 then s.putIndex + 1 else 0 } := by
  unfold completeBuffer
  rw [countCompletion_eq]
  simp [advancePut, edgeSet, satInc_counterMax]

/-- Everything one performed conversion does. -/
theorem produce_eq (data : Word) (s : State) :
    produce data s =
      if s.fillOffset = 511#9 then
        completeBuffer { s with
          pool := s.pool.write (windowAddr s.putIndex.toNat 511) (sampleOf s.cfg.adcW data) }
      else { s with
        pool := s.pool.write (windowAddr s.putIndex.toNat s.fillOffset.toNat)
          (sampleOf s.cfg.adcW data)
        peak := if s.peak < sampleOf s.cfg.adcW data then sampleOf s.cfg.adcW data else s.peak
        fillOffset := s.fillOffset + 1 } := by
  unfold produce advanceFill
  by_cases h : s.fillOffset = 511#9
  · simp only [updatePeak_fillOffset, storeSample_fillOffset, h, if_true]
    rw [completeBuffer_eq, completeBuffer_eq]
    simp [updatePeak, storeSample, h]
  · simp [updatePeak, storeSample, h]
    rfl

/-- The pool after one performed conversion: one store at the fill position. -/
theorem produce_pool (data : Word) (s : State) :
    (produce data s).pool =
      s.pool.write (windowAddr s.putIndex.toNat s.fillOffset.toNat) (sampleOf s.cfg.adcW data) := by
  rw [produce_eq]
  split
  · rename_i h
    rw [completeBuffer_eq, h]
    rfl
  · rfl

/-- The fill position is a window address of buffer `put_index` (`20_memory` R62). -/
theorem windowAddr_bounds (b o n : Nat) (hb : b < n) (ho : o < 512) :
    0x8000 ≤ windowAddr b o ∧ windowAddr b o < 0x8000 + 512 * n := by
  unfold windowAddr
  omega

/-- Different fill positions are different addresses. -/
theorem windowAddr_inj (b b' o o' : Nat) (ho : o < 512) (ho' : o' < 512)
    (h : windowAddr b o = windowAddr b' o') : b = b' ∧ o = o' := by
  unfold windowAddr at h
  omega

/-- Every performed conversion keeps the pool's canonical form. -/
theorem produce_pool_wf (data : Word) (s : State) (h : s.pool.wf) : (produce data s).pool.wf := by
  rw [produce_pool]
  exact memory_write_wf _ _ _ h

/-- Every written byte stays inside the `N` buffers. -/
theorem produce_pool_in_window (data : Word) (s : State) (hp : s.putIndex.toNat < s.cfg.bufCount)
    (h : ∀ c ∈ s.pool, 0x8000 ≤ c.1 ∧ c.1 < 0x8000 + 512 * s.cfg.bufCount) :
    ∀ c ∈ (produce data s).pool, 0x8000 ≤ c.1 ∧ c.1 < 0x8000 + 512 * s.cfg.bufCount := by
  intro c hc
  rw [produce_pool] at hc
  rcases memory_mem_write _ _ _ _ hc with rfl | hc
  · exact windowAddr_bounds _ _ _ hp s.fillOffset.isLt
  · exact h c hc

/-! ## The consumer's commands (`42_audio_pipeline` R172, R173) -/

/-- `SESSION_RESET` with a source selected does nothing. -/
theorem sessionReset_source_on (s : State) (h : s.srcOn = true) : sessionReset s = s := by
  simp [sessionReset, h]

/-- `SESSION_RESET` with both sources off clears the pipeline fields and nothing else. -/
theorem sessionReset_source_off (s : State) (h : s.srcOn = false) :
    sessionReset s = { s with
      putIndex := 0, fillOffset := 0, readyCount := 0, overrunCount := 0, missedCount := 0,
      peak := 0, fpe := false, pbDiv := 0 } := by
  simp [sessionReset, h]

/-! ## The buffer window (`30_encoding` R85, `42_audio_pipeline` R180) -/

/-- The buffer index of a window address. -/
theorem bufIndex_windowAddr (b o : Nat) (hb : b < 64) (ho : o < 512) :
    (bufIndex (BitVec.ofNat 16 (windowAddr b o))).toNat = b := by
  unfold bufIndex windowAddr
  rw [BitVec.extractLsb'_toNat, BitVec.toNat_ofNat, Nat.shiftRight_eq_div_pow]
  omega

/-- The byte offset of a window address. -/
theorem bufOffset_windowAddr (b o : Nat) (ho : o < 512) :
    (bufOffset (BitVec.ofNat 16 (windowAddr b o))).toNat = o := by
  unfold bufOffset windowAddr
  rw [BitVec.extractLsb'_toNat, BitVec.toNat_ofNat, Nat.shiftRight_eq_div_pow]
  omega

end Sys2Proof.Machine
end

