-- ==== Sys2Proof/Laws/PerInstr.lean ====
section
/-! SUPPORT. The per-instruction family `EncodeSelectsRow`: the word of a well-formed operation selects the
operation's own row of the opcode table (`30_encoding` R90). -/

namespace Sys2Proof.Laws

open Sys2Proof

/-- The word of `i` selects the row of the table that has `i`'s mnemonic (`30_encoding` R90). -/
def EncodeSelectsRow.Statement (i : Instr) : Prop :=
  i.wellFormed = true → ∃ r ∈ opTable, r.mnemonic = i.mnemonic ∧ r.selects (encode i) = true

/-- A row whose mask covers `cls` and `sel` selects every word with these two fields. -/
theorem selects_exact (m : String) (c : BitVec 2) (a : BitVec 16) (d : Word) :
    OpRow.selects ⟨m, mkOpWord c a 0#32, mkOpWord 0b11#2 0xFFFF#16 0#32⟩ (mkOpWord c a d) = true := by
  have h1 : c &&& 0b11#2 = c := by revert c; decide
  have h2 : a &&& 0xFFFF#16 = a := BitVec.and_allOnes
  simp [OpRow.selects, mkOpWord_and, h1, h2]

/-- A row whose mask covers `cls` alone selects every word of the class. -/
theorem selects_class (m : String) (c : BitVec 2) (a : BitVec 16) (d : Word) :
    OpRow.selects ⟨m, mkOpWord c 0#16 0#32, mkOpWord 0b11#2 0#16 0#32⟩ (mkOpWord c a d) = true := by
  have h1 : c &&& 0b11#2 = c := by revert c; decide
  simp [OpRow.selects, mkOpWord_and, h1]

/-- Bit 15 of a window address, under a mask of that bit. -/
theorem inWindow_and (a : Addr) : inWindow a = true ↔ a &&& 0x8000#16 = 0x8000#16 := by
  constructor
  · intro h
    refine BitVec.eq_of_getLsbD_eq fun i hi => ?_
    rw [BitVec.getLsbD_and]
    rcases Nat.lt_or_ge i 15 with h15 | h15
    · have : (0x8000#16).getLsbD i = false := by interval_cases i <;> decide
      simp [this]
    · obtain rfl : i = 15 := by omega
      simpa [inWindow] using h
  · intro h
    have := congrArg (fun v : Addr => v.getLsbD 15) h
    simpa [inWindow] using this

/-- An aligned window address under the address part of `RD.BUF`'s mask. -/
theorem window_aligned_and (a : Addr) (h : (inWindow a && aligned a) = true) :
    a &&& 0x8003#16 = 0x8000#16 := by
  obtain ⟨hw, ha⟩ := Bool.and_eq_true_iff.mp h
  refine BitVec.eq_of_getLsbD_eq fun i hi => ?_
  rw [BitVec.getLsbD_and]
  have ha' : a.extractLsb' 0 2 = 0#2 := by simpa [aligned] using ha
  have h0 : a[0] = false := by
    simpa using congrArg (fun v : BitVec 2 => v.getLsbD 0) ha'
  have h1 : a[1] = false := by
    simpa using congrArg (fun v : BitVec 2 => v.getLsbD 1) ha'
  have h15 : a[15] = true := hw
  interval_cases i <;> simp [h0, h1, h15]

namespace EncodeSelectsRow

theorem rdTickCnt : Statement (.rdTickCnt) := fun _ =>
  ⟨⟨"RD.TICK_CNT", mkOpWord 0b00#2 0x0000#16 0#32, mkOpWord 0b11#2 0xFFFF#16 0#32⟩, by decide, rfl,
    selects_exact _ _ _ _⟩

theorem rdSlowPoll : Statement (.rdSlowPoll) := fun _ =>
  ⟨⟨"RD.SLOW_POLL", mkOpWord 0b00#2 0x0004#16 0#32, mkOpWord 0b11#2 0xFFFF#16 0#32⟩, by decide, rfl,
    selects_exact _ _ _ _⟩

theorem rdPipeCtrl : Statement (.rdPipeCtrl) := fun _ =>
  ⟨⟨"RD.PIPE_CTRL", mkOpWord 0b00#2 0x0010#16 0#32, mkOpWord 0b11#2 0xFFFF#16 0#32⟩, by decide, rfl,
    selects_exact _ _ _ _⟩

theorem rdPipeCmd : Statement (.rdPipeCmd) := fun _ =>
  ⟨⟨"RD.PIPE_CMD", mkOpWord 0b00#2 0x0014#16 0#32, mkOpWord 0b11#2 0xFFFF#16 0#32⟩, by decide, rfl,
    selects_exact _ _ _ _⟩

theorem rdPipeStat : Statement (.rdPipeStat) := fun _ =>
  ⟨⟨"RD.PIPE_STAT", mkOpWord 0b00#2 0x0018#16 0#32, mkOpWord 0b11#2 0xFFFF#16 0#32⟩, by decide, rfl,
    selects_exact _ _ _ _⟩

theorem rdPeak : Statement (.rdPeak) := fun _ =>
  ⟨⟨"RD.PEAK", mkOpWord 0b00#2 0x001C#16 0#32, mkOpWord 0b11#2 0xFFFF#16 0#32⟩, by decide, rfl,
    selects_exact _ _ _ _⟩

theorem rdOverrun : Statement (.rdOverrun) := fun _ =>
  ⟨⟨"RD.OVERRUN", mkOpWord 0b00#2 0x0020#16 0#32, mkOpWord 0b11#2 0xFFFF#16 0#32⟩, by decide, rfl,
    selects_exact _ _ _ _⟩

theorem rdMissed : Statement (.rdMissed) := fun _ =>
  ⟨⟨"RD.MISSED", mkOpWord 0b00#2 0x0024#16 0#32, mkOpWord 0b11#2 0xFFFF#16 0#32⟩, by decide, rfl,
    selects_exact _ _ _ _⟩

theorem rdPbDiv : Statement (.rdPbDiv) := fun _ =>
  ⟨⟨"RD.PB_DIV", mkOpWord 0b00#2 0x0028#16 0#32, mkOpWord 0b11#2 0xFFFF#16 0#32⟩, by decide, rfl,
    selects_exact _ _ _ _⟩

theorem rdU1Ctrl : Statement (.rdU1Ctrl) := fun _ =>
  ⟨⟨"RD.U1_CTRL", mkOpWord 0b00#2 0x0040#16 0#32, mkOpWord 0b11#2 0xFFFF#16 0#32⟩, by decide, rfl,
    selects_exact _ _ _ _⟩

theorem rdU1Prescale : Statement (.rdU1Prescale) := fun _ =>
  ⟨⟨"RD.U1_PRESCALE", mkOpWord 0b00#2 0x0044#16 0#32, mkOpWord 0b11#2 0xFFFF#16 0#32⟩, by decide, rfl,
    selects_exact _ _ _ _⟩

theorem rdU1Match0 : Statement (.rdU1Match0) := fun _ =>
  ⟨⟨"RD.U1_MATCH0", mkOpWord 0b00#2 0x0048#16 0#32, mkOpWord 0b11#2 0xFFFF#16 0#32⟩, by decide, rfl,
    selects_exact _ _ _ _⟩

theorem rdU1Match1 : Statement (.rdU1Match1) := fun _ =>
  ⟨⟨"RD.U1_MATCH1", mkOpWord 0b00#2 0x004C#16 0#32, mkOpWord 0b11#2 0xFFFF#16 0#32⟩, by decide, rfl,
    selects_exact _ _ _ _⟩

theorem rdU1Count : Statement (.rdU1Count) := fun _ =>
  ⟨⟨"RD.U1_COUNT", mkOpWord 0b00#2 0x0050#16 0#32, mkOpWord 0b11#2 0xFFFF#16 0#32⟩, by decide, rfl,
    selects_exact _ _ _ _⟩

theorem rdU1Role : Statement (.rdU1Role) := fun _ =>
  ⟨⟨"RD.U1_ROLE", mkOpWord 0b00#2 0x0054#16 0#32, mkOpWord 0b11#2 0xFFFF#16 0#32⟩, by decide, rfl,
    selects_exact _ _ _ _⟩

theorem rdU2Ctrl : Statement (.rdU2Ctrl) := fun _ =>
  ⟨⟨"RD.U2_CTRL", mkOpWord 0b00#2 0x0060#16 0#32, mkOpWord 0b11#2 0xFFFF#16 0#32⟩, by decide, rfl,
    selects_exact _ _ _ _⟩

theorem rdU2Prescale : Statement (.rdU2Prescale) := fun _ =>
  ⟨⟨"RD.U2_PRESCALE", mkOpWord 0b00#2 0x0064#16 0#32, mkOpWord 0b11#2 0xFFFF#16 0#32⟩, by decide, rfl,
    selects_exact _ _ _ _⟩

theorem rdU2Match0 : Statement (.rdU2Match0) := fun _ =>
  ⟨⟨"RD.U2_MATCH0", mkOpWord 0b00#2 0x0068#16 0#32, mkOpWord 0b11#2 0xFFFF#16 0#32⟩, by decide, rfl,
    selects_exact _ _ _ _⟩

theorem rdU2Match1 : Statement (.rdU2Match1) := fun _ =>
  ⟨⟨"RD.U2_MATCH1", mkOpWord 0b00#2 0x006C#16 0#32, mkOpWord 0b11#2 0xFFFF#16 0#32⟩, by decide, rfl,
    selects_exact _ _ _ _⟩

theorem rdU2Count : Statement (.rdU2Count) := fun _ =>
  ⟨⟨"RD.U2_COUNT", mkOpWord 0b00#2 0x0070#16 0#32, mkOpWord 0b11#2 0xFFFF#16 0#32⟩, by decide, rfl,
    selects_exact _ _ _ _⟩

theorem rdU2Role : Statement (.rdU2Role) := fun _ =>
  ⟨⟨"RD.U2_ROLE", mkOpWord 0b00#2 0x0074#16 0#32, mkOpWord 0b11#2 0xFFFF#16 0#32⟩, by decide, rfl,
    selects_exact _ _ _ _⟩

theorem rdU3Ctrl : Statement (.rdU3Ctrl) := fun _ =>
  ⟨⟨"RD.U3_CTRL", mkOpWord 0b00#2 0x0080#16 0#32, mkOpWord 0b11#2 0xFFFF#16 0#32⟩, by decide, rfl,
    selects_exact _ _ _ _⟩

theorem rdU3Prescale : Statement (.rdU3Prescale) := fun _ =>
  ⟨⟨"RD.U3_PRESCALE", mkOpWord 0b00#2 0x0084#16 0#32, mkOpWord 0b11#2 0xFFFF#16 0#32⟩, by decide, rfl,
    selects_exact _ _ _ _⟩

theorem rdU3Match0 : Statement (.rdU3Match0) := fun _ =>
  ⟨⟨"RD.U3_MATCH0", mkOpWord 0b00#2 0x0088#16 0#32, mkOpWord 0b11#2 0xFFFF#16 0#32⟩, by decide, rfl,
    selects_exact _ _ _ _⟩

theorem rdU3Match1 : Statement (.rdU3Match1) := fun _ =>
  ⟨⟨"RD.U3_MATCH1", mkOpWord 0b00#2 0x008C#16 0#32, mkOpWord 0b11#2 0xFFFF#16 0#32⟩, by decide, rfl,
    selects_exact _ _ _ _⟩

theorem rdU3Count : Statement (.rdU3Count) := fun _ =>
  ⟨⟨"RD.U3_COUNT", mkOpWord 0b00#2 0x0090#16 0#32, mkOpWord 0b11#2 0xFFFF#16 0#32⟩, by decide, rfl,
    selects_exact _ _ _ _⟩

theorem rdU3Role : Statement (.rdU3Role) := fun _ =>
  ⟨⟨"RD.U3_ROLE", mkOpWord 0b00#2 0x0094#16 0#32, mkOpWord 0b11#2 0xFFFF#16 0#32⟩, by decide, rfl,
    selects_exact _ _ _ _⟩

theorem rdU4Ctrl : Statement (.rdU4Ctrl) := fun _ =>
  ⟨⟨"RD.U4_CTRL", mkOpWord 0b00#2 0x00A0#16 0#32, mkOpWord 0b11#2 0xFFFF#16 0#32⟩, by decide, rfl,
    selects_exact _ _ _ _⟩

theorem rdU4Prescale : Statement (.rdU4Prescale) := fun _ =>
  ⟨⟨"RD.U4_PRESCALE", mkOpWord 0b00#2 0x00A4#16 0#32, mkOpWord 0b11#2 0xFFFF#16 0#32⟩, by decide, rfl,
    selects_exact _ _ _ _⟩

theorem rdU4Match0 : Statement (.rdU4Match0) := fun _ =>
  ⟨⟨"RD.U4_MATCH0", mkOpWord 0b00#2 0x00A8#16 0#32, mkOpWord 0b11#2 0xFFFF#16 0#32⟩, by decide, rfl,
    selects_exact _ _ _ _⟩

theorem rdU4Match1 : Statement (.rdU4Match1) := fun _ =>
  ⟨⟨"RD.U4_MATCH1", mkOpWord 0b00#2 0x00AC#16 0#32, mkOpWord 0b11#2 0xFFFF#16 0#32⟩, by decide, rfl,
    selects_exact _ _ _ _⟩

theorem rdU4Count : Statement (.rdU4Count) := fun _ =>
  ⟨⟨"RD.U4_COUNT", mkOpWord 0b00#2 0x00B0#16 0#32, mkOpWord 0b11#2 0xFFFF#16 0#32⟩, by decide, rfl,
    selects_exact _ _ _ _⟩

theorem rdU4Role : Statement (.rdU4Role) := fun _ =>
  ⟨⟨"RD.U4_ROLE", mkOpWord 0b00#2 0x00B4#16 0#32, mkOpWord 0b11#2 0xFFFF#16 0#32⟩, by decide, rfl,
    selects_exact _ _ _ _⟩

theorem rdBuf (addr : Addr) : Statement (.rdBuf addr) := fun h =>
  ⟨⟨"RD.BUF", mkOpWord 0b00#2 0x8000#16 0#32, mkOpWord 0b11#2 0x8003#16 0#32⟩, by decide, rfl, by
    simp [OpRow.selects, encode, mkOpWord_and, window_aligned_and addr h]⟩

theorem rdReserved (addr : Addr) : Statement (.rdReserved addr) := fun _ =>
  ⟨⟨"RD.RESERVED", mkOpWord 0b00#2 0x0000#16 0#32, mkOpWord 0b11#2 0x0000#16 0#32⟩, by decide, rfl,
    selects_class _ _ _ _⟩

theorem wrTickCnt (wdata : Word) : Statement (.wrTickCnt wdata) := fun _ =>
  ⟨⟨"WR.TICK_CNT", mkOpWord 0b01#2 0x0000#16 0#32, mkOpWord 0b11#2 0xFFFF#16 0#32⟩, by decide, rfl,
    selects_exact _ _ _ _⟩

theorem wrSlowPoll (wdata : Word) : Statement (.wrSlowPoll wdata) := fun _ =>
  ⟨⟨"WR.SLOW_POLL", mkOpWord 0b01#2 0x0004#16 0#32, mkOpWord 0b11#2 0xFFFF#16 0#32⟩, by decide, rfl,
    selects_exact _ _ _ _⟩

theorem wrPipeCtrl (wdata : Word) : Statement (.wrPipeCtrl wdata) := fun _ =>
  ⟨⟨"WR.PIPE_CTRL", mkOpWord 0b01#2 0x0010#16 0#32, mkOpWord 0b11#2 0xFFFF#16 0#32⟩, by decide, rfl,
    selects_exact _ _ _ _⟩

theorem wrPipeCmd (wdata : Word) : Statement (.wrPipeCmd wdata) := fun _ =>
  ⟨⟨"WR.PIPE_CMD", mkOpWord 0b01#2 0x0014#16 0#32, mkOpWord 0b11#2 0xFFFF#16 0#32⟩, by decide, rfl,
    selects_exact _ _ _ _⟩

theorem wrU1Ctrl (wdata : Word) : Statement (.wrU1Ctrl wdata) := fun _ =>
  ⟨⟨"WR.U1_CTRL", mkOpWord 0b01#2 0x0040#16 0#32, mkOpWord 0b11#2 0xFFFF#16 0#32⟩, by decide, rfl,
    selects_exact _ _ _ _⟩

theorem wrU1Prescale (wdata : Word) : Statement (.wrU1Prescale wdata) := fun _ =>
  ⟨⟨"WR.U1_PRESCALE", mkOpWord 0b01#2 0x0044#16 0#32, mkOpWord 0b11#2 0xFFFF#16 0#32⟩, by decide, rfl,
    selects_exact _ _ _ _⟩

theorem wrU1Match0 (wdata : Word) : Statement (.wrU1Match0 wdata) := fun _ =>
  ⟨⟨"WR.U1_MATCH0", mkOpWord 0b01#2 0x0048#16 0#32, mkOpWord 0b11#2 0xFFFF#16 0#32⟩, by decide, rfl,
    selects_exact _ _ _ _⟩

theorem wrU1Match1 (wdata : Word) : Statement (.wrU1Match1 wdata) := fun _ =>
  ⟨⟨"WR.U1_MATCH1", mkOpWord 0b01#2 0x004C#16 0#32, mkOpWord 0b11#2 0xFFFF#16 0#32⟩, by decide, rfl,
    selects_exact _ _ _ _⟩

theorem wrU1Role (wdata : Word) : Statement (.wrU1Role wdata) := fun _ =>
  ⟨⟨"WR.U1_ROLE", mkOpWord 0b01#2 0x0054#16 0#32, mkOpWord 0b11#2 0xFFFF#16 0#32⟩, by decide, rfl,
    selects_exact _ _ _ _⟩

theorem wrU2Ctrl (wdata : Word) : Statement (.wrU2Ctrl wdata) := fun _ =>
  ⟨⟨"WR.U2_CTRL", mkOpWord 0b01#2 0x0060#16 0#32, mkOpWord 0b11#2 0xFFFF#16 0#32⟩, by decide, rfl,
    selects_exact _ _ _ _⟩

theorem wrU2Prescale (wdata : Word) : Statement (.wrU2Prescale wdata) := fun _ =>
  ⟨⟨"WR.U2_PRESCALE", mkOpWord 0b01#2 0x0064#16 0#32, mkOpWord 0b11#2 0xFFFF#16 0#32⟩, by decide, rfl,
    selects_exact _ _ _ _⟩

theorem wrU2Match0 (wdata : Word) : Statement (.wrU2Match0 wdata) := fun _ =>
  ⟨⟨"WR.U2_MATCH0", mkOpWord 0b01#2 0x0068#16 0#32, mkOpWord 0b11#2 0xFFFF#16 0#32⟩, by decide, rfl,
    selects_exact _ _ _ _⟩

theorem wrU2Match1 (wdata : Word) : Statement (.wrU2Match1 wdata) := fun _ =>
  ⟨⟨"WR.U2_MATCH1", mkOpWord 0b01#2 0x006C#16 0#32, mkOpWord 0b11#2 0xFFFF#16 0#32⟩, by decide, rfl,
    selects_exact _ _ _ _⟩

theorem wrU2Role (wdata : Word) : Statement (.wrU2Role wdata) := fun _ =>
  ⟨⟨"WR.U2_ROLE", mkOpWord 0b01#2 0x0074#16 0#32, mkOpWord 0b11#2 0xFFFF#16 0#32⟩, by decide, rfl,
    selects_exact _ _ _ _⟩

theorem wrU3Ctrl (wdata : Word) : Statement (.wrU3Ctrl wdata) := fun _ =>
  ⟨⟨"WR.U3_CTRL", mkOpWord 0b01#2 0x0080#16 0#32, mkOpWord 0b11#2 0xFFFF#16 0#32⟩, by decide, rfl,
    selects_exact _ _ _ _⟩

theorem wrU3Prescale (wdata : Word) : Statement (.wrU3Prescale wdata) := fun _ =>
  ⟨⟨"WR.U3_PRESCALE", mkOpWord 0b01#2 0x0084#16 0#32, mkOpWord 0b11#2 0xFFFF#16 0#32⟩, by decide, rfl,
    selects_exact _ _ _ _⟩

theorem wrU3Match0 (wdata : Word) : Statement (.wrU3Match0 wdata) := fun _ =>
  ⟨⟨"WR.U3_MATCH0", mkOpWord 0b01#2 0x0088#16 0#32, mkOpWord 0b11#2 0xFFFF#16 0#32⟩, by decide, rfl,
    selects_exact _ _ _ _⟩

theorem wrU3Match1 (wdata : Word) : Statement (.wrU3Match1 wdata) := fun _ =>
  ⟨⟨"WR.U3_MATCH1", mkOpWord 0b01#2 0x008C#16 0#32, mkOpWord 0b11#2 0xFFFF#16 0#32⟩, by decide, rfl,
    selects_exact _ _ _ _⟩

theorem wrU3Role (wdata : Word) : Statement (.wrU3Role wdata) := fun _ =>
  ⟨⟨"WR.U3_ROLE", mkOpWord 0b01#2 0x0094#16 0#32, mkOpWord 0b11#2 0xFFFF#16 0#32⟩, by decide, rfl,
    selects_exact _ _ _ _⟩

theorem wrU4Ctrl (wdata : Word) : Statement (.wrU4Ctrl wdata) := fun _ =>
  ⟨⟨"WR.U4_CTRL", mkOpWord 0b01#2 0x00A0#16 0#32, mkOpWord 0b11#2 0xFFFF#16 0#32⟩, by decide, rfl,
    selects_exact _ _ _ _⟩

theorem wrU4Prescale (wdata : Word) : Statement (.wrU4Prescale wdata) := fun _ =>
  ⟨⟨"WR.U4_PRESCALE", mkOpWord 0b01#2 0x00A4#16 0#32, mkOpWord 0b11#2 0xFFFF#16 0#32⟩, by decide, rfl,
    selects_exact _ _ _ _⟩

theorem wrU4Match0 (wdata : Word) : Statement (.wrU4Match0 wdata) := fun _ =>
  ⟨⟨"WR.U4_MATCH0", mkOpWord 0b01#2 0x00A8#16 0#32, mkOpWord 0b11#2 0xFFFF#16 0#32⟩, by decide, rfl,
    selects_exact _ _ _ _⟩

theorem wrU4Match1 (wdata : Word) : Statement (.wrU4Match1 wdata) := fun _ =>
  ⟨⟨"WR.U4_MATCH1", mkOpWord 0b01#2 0x00AC#16 0#32, mkOpWord 0b11#2 0xFFFF#16 0#32⟩, by decide, rfl,
    selects_exact _ _ _ _⟩

theorem wrU4Role (wdata : Word) : Statement (.wrU4Role wdata) := fun _ =>
  ⟨⟨"WR.U4_ROLE", mkOpWord 0b01#2 0x00B4#16 0#32, mkOpWord 0b11#2 0xFFFF#16 0#32⟩, by decide, rfl,
    selects_exact _ _ _ _⟩

theorem wrBuf (addr : Addr) (wdata : Word) : Statement (.wrBuf addr wdata) := fun h =>
  ⟨⟨"WR.BUF", mkOpWord 0b01#2 0x8000#16 0#32, mkOpWord 0b11#2 0x8000#16 0#32⟩, by decide, rfl, by
    simp [OpRow.selects, encode, mkOpWord_and, (inWindow_and addr).mp h]⟩

theorem wrReserved (addr : Addr) (wdata : Word) : Statement (.wrReserved addr wdata) := fun _ =>
  ⟨⟨"WR.RESERVED", mkOpWord 0b01#2 0x0000#16 0#32, mkOpWord 0b11#2 0x0000#16 0#32⟩, by decide, rfl,
    selects_class _ _ _ _⟩

theorem evtReset : Statement (.evtReset) := fun _ =>
  ⟨⟨"EVT.RESET", mkOpWord 0b10#2 0x0000#16 0#32, mkOpWord 0b11#2 0xFFFF#16 0#32⟩, by decide, rfl,
    selects_exact _ _ _ _⟩

theorem evtClk : Statement (.evtClk) := fun _ =>
  ⟨⟨"EVT.CLK", mkOpWord 0b10#2 0x0001#16 0#32, mkOpWord 0b11#2 0xFFFF#16 0#32⟩, by decide, rfl,
    selects_exact _ _ _ _⟩

theorem evtTick : Statement (.evtTick) := fun _ =>
  ⟨⟨"EVT.TICK", mkOpWord 0b10#2 0x0002#16 0#32, mkOpWord 0b11#2 0xFFFF#16 0#32⟩, by decide, rfl,
    selects_exact _ _ _ _⟩

theorem evtAdcDone (data : Word) : Statement (.evtAdcDone data) := fun _ =>
  ⟨⟨"EVT.ADC_DONE", mkOpWord 0b10#2 0x0003#16 0#32, mkOpWord 0b11#2 0xFFFF#16 0#32⟩, by decide, rfl,
    selects_exact _ _ _ _⟩

theorem evtReserved (evt : BitVec 16) : Statement (.evtReserved evt) := fun _ =>
  ⟨⟨"EVT.RESERVED", mkOpWord 0b10#2 0x0000#16 0#32, mkOpWord 0b11#2 0x0000#16 0#32⟩, by decide, rfl,
    selects_class _ _ _ _⟩

theorem opReserved (sel : BitVec 16) : Statement (.opReserved sel) := fun _ =>
  ⟨⟨"OP.RESERVED", mkOpWord 0b11#2 0x0000#16 0#32, mkOpWord 0b11#2 0x0000#16 0#32⟩, by decide, rfl,
    selects_class _ _ _ _⟩

end EncodeSelectsRow

end Sys2Proof.Laws
end

