-- ==== Sys2Proof/Tests/Slice0.lean ====
section
/-! SUPPORT. The model's own tests: ill-formed terms that WellFormed refuses, the word of every operation
written out from the encoding of `30_encoding` R80, R86, R90 and the addresses of `10_state` R23, one-step
vectors of `95_test_vectors` part 2, and for every statement with hypotheses a concrete state and operands
that meet them. -/

namespace Sys2Proof.Tests

open Sys2Proof Sys2Proof.Machine

/-! ## Helpers -/

/-- The state after reset under `CFG_EX` (`95_test_vectors`). -/
def ex : State := { State.reset with cfg := { bufCount := 4, adcW := 10, tickMax := 65535, spPeriod := 200 } }

/-- An armed unit, cleared, with prescaler 0. -/
def armed : TimerUnit := { en := true, prescale := 0, count := 0, psc := 0 }

/-- Whether one step on a word answers a next state with a property. -/
def nextHas (s : State) (w : Nat) (p : State → Bool) : Bool :=
  match step (s.withFetchWord 56 w) with
  | .next t => p t
  | .fault _ => false
  | .refused _ => false

/-- Whether one step on a word raises a fault. -/
def faults (s : State) (w : Nat) (f : Fault) : Bool :=
  match step (s.withFetchWord 56 w) with
  | .next _ => false
  | .fault g => decide (g = f)
  | .refused _ => false

/-- Whether one step on a word returns a value and changes nothing else. -/
def readsAs (s : State) (w : Nat) (v : Word) : Bool :=
  nextHas s w fun t => decide (t = s.answer v)

/-- Whether one step on a word changes nothing. -/
def ignored (s : State) (w : Nat) : Bool := nextHas s w fun t => decide (t = s.quiet)

/-- A state whose registers all differ. -/
def full : State := { ex with
  tickCnt := 0x2B, slowPoll := 0xC8, pbEn := true, putIndex := 1, fillOffset := 511, readyCount := 3
  overrunCount := 2, missedCount := 5, peak := 0x81, fpe := true, pbDiv := 0x105
  u1 := { en := true, prescale := 0x11, count := 0x12, psc := 0x13 }
  u2 := { en := false, prescale := 0x21, count := 0x22, psc := 0x23 }
  u3 := { en := true, prescale := 0x31, count := 0x32, psc := 0x33 }
  u4 := { en := false, prescale := 0x41, count := 0x42, psc := 0x43 }
  u2Match0 := 0x24, u3Match0 := 0x34, u4Match0 := 0x44, u3Match1 := 0x35, u4Match1 := 0x45 }

/-! ## WellFormed refuses ill-formed terms -/

theorem test_wf_buf_misaligned : (Instr.rdBuf 0x8001#16).wellFormed = false := by decide
theorem test_wf_buf_outside_window : (Instr.rdBuf 0x7FFC#16).wellFormed = false := by decide
theorem test_wf_reserved_read_of_register : (Instr.rdReserved 0x0018#16).wellFormed = false := by decide
theorem test_wf_reserved_read_of_window : (Instr.rdReserved 0x8004#16).wellFormed = false := by decide
theorem test_wf_window_write_below : (Instr.wrBuf 0x7FFF#16 1#32).wellFormed = false := by decide
theorem test_wf_reserved_write_of_register : (Instr.wrReserved 0x0014#16 1#32).wellFormed = false := by
  decide
theorem test_wf_reserved_write_of_window : (Instr.wrReserved 0x8001#16 1#32).wellFormed = false := by
  decide
theorem test_wf_reserved_event_below_4 : (Instr.evtReserved 0x0003#16).wellFormed = false := by decide
theorem test_wf_word_read_with_data : OpWord.wellFormed 0x0001400000001#50 = false := by decide
theorem test_wf_word_class_11_with_data : OpWord.wellFormed 0x3000000000001#50 = false := by decide

/-! ## Words written out from the encoding -/

theorem test_decode_reads_tick_pipe :
    decode 0x0000000000000#50 = .rdTickCnt ∧
      decode 0x0000400000000#50 = .rdSlowPoll ∧
      decode 0x0001000000000#50 = .rdPipeCtrl ∧
      decode 0x0001400000000#50 = .rdPipeCmd ∧
      decode 0x0001800000000#50 = .rdPipeStat ∧
      decode 0x0001C00000000#50 = .rdPeak ∧
      decode 0x0002000000000#50 = .rdOverrun ∧
      decode 0x0002400000000#50 = .rdMissed ∧
      decode 0x0002800000000#50 = .rdPbDiv := by decide

theorem test_decode_reads_u1 :
    decode 0x0004000000000#50 = .rdU1Ctrl ∧
      decode 0x0004400000000#50 = .rdU1Prescale ∧
      decode 0x0004800000000#50 = .rdU1Match0 ∧
      decode 0x0004C00000000#50 = .rdU1Match1 ∧
      decode 0x0005000000000#50 = .rdU1Count ∧
      decode 0x0005400000000#50 = .rdU1Role := by decide

theorem test_decode_reads_u2 :
    decode 0x0006000000000#50 = .rdU2Ctrl ∧
      decode 0x0006400000000#50 = .rdU2Prescale ∧
      decode 0x0006800000000#50 = .rdU2Match0 ∧
      decode 0x0006C00000000#50 = .rdU2Match1 ∧
      decode 0x0007000000000#50 = .rdU2Count ∧
      decode 0x0007400000000#50 = .rdU2Role := by decide

theorem test_decode_reads_u3 :
    decode 0x0008000000000#50 = .rdU3Ctrl ∧
      decode 0x0008400000000#50 = .rdU3Prescale ∧
      decode 0x0008800000000#50 = .rdU3Match0 ∧
      decode 0x0008C00000000#50 = .rdU3Match1 ∧
      decode 0x0009000000000#50 = .rdU3Count ∧
      decode 0x0009400000000#50 = .rdU3Role := by decide

theorem test_decode_reads_u4 :
    decode 0x000A000000000#50 = .rdU4Ctrl ∧
      decode 0x000A400000000#50 = .rdU4Prescale ∧
      decode 0x000A800000000#50 = .rdU4Match0 ∧
      decode 0x000AC00000000#50 = .rdU4Match1 ∧
      decode 0x000B000000000#50 = .rdU4Count ∧
      decode 0x000B400000000#50 = .rdU4Role := by decide

theorem test_decode_writes_tick_pipe :
    decode 0x10000FFFFFFFF#50 = .wrTickCnt 0xFFFFFFFF ∧
      decode 0x1000412345678#50 = .wrSlowPoll 0x12345678 ∧
      decode 0x1001000000002#50 = .wrPipeCtrl 0x2 ∧
      decode 0x1001480000001#50 = .wrPipeCmd 0x80000001 := by decide

theorem test_decode_writes_u1 :
    decode 0x1004080000001#50 = .wrU1Ctrl 0x80000001 ∧
      decode 0x1004480000001#50 = .wrU1Prescale 0x80000001 ∧
      decode 0x1004880000001#50 = .wrU1Match0 0x80000001 ∧
      decode 0x1004C80000001#50 = .wrU1Match1 0x80000001 ∧
      decode 0x1005480000001#50 = .wrU1Role 0x80000001 := by decide

theorem test_decode_writes_u2 :
    decode 0x1006080000002#50 = .wrU2Ctrl 0x80000002 ∧
      decode 0x1006480000002#50 = .wrU2Prescale 0x80000002 ∧
      decode 0x1006880000002#50 = .wrU2Match0 0x80000002 ∧
      decode 0x1006C80000002#50 = .wrU2Match1 0x80000002 ∧
      decode 0x1007480000002#50 = .wrU2Role 0x80000002 := by decide

theorem test_decode_writes_u3 :
    decode 0x1008080000003#50 = .wrU3Ctrl 0x80000003 ∧
      decode 0x1008480000003#50 = .wrU3Prescale 0x80000003 ∧
      decode 0x1008880000003#50 = .wrU3Match0 0x80000003 ∧
      decode 0x1008C80000003#50 = .wrU3Match1 0x80000003 ∧
      decode 0x1009480000003#50 = .wrU3Role 0x80000003 := by decide

theorem test_decode_writes_u4 :
    decode 0x100A080000004#50 = .wrU4Ctrl 0x80000004 ∧
      decode 0x100A480000004#50 = .wrU4Prescale 0x80000004 ∧
      decode 0x100A880000004#50 = .wrU4Match0 0x80000004 ∧
      decode 0x100AC80000004#50 = .wrU4Match1 0x80000004 ∧
      decode 0x100B480000004#50 = .wrU4Role 0x80000004 := by decide

theorem test_decode_window :
    decode 0x081FC00000000#50 = .rdBuf 0x81FC ∧
      decode 0x0FFFC00000000#50 = .rdBuf 0xFFFC ∧
      decode 0x0800100000000#50 = .rdReserved 0x8001 ∧
      decode 0x1800012345678#50 = .wrBuf 0x8000 0x12345678 ∧
      decode 0x1FFFF00000001#50 = .wrBuf 0xFFFF 1 := by decide

theorem test_decode_events :
    decode 0x2000000000000#50 = .evtReset ∧
      decode 0x2000100000000#50 = .evtClk ∧
      decode 0x2000200000000#50 = .evtTick ∧
      decode 0x20003FFFFFE04#50 = .evtAdcDone 0xFFFFFE04 ∧
      decode 0x2FFFF00000000#50 = .evtReserved 0xFFFF ∧
      decode 0x3800180000001#50 = .opReserved 0x8001 := by decide

theorem test_decode_reserved_addresses :
    decode 0x0000800000000#50 = .rdReserved 0x0008 ∧
      decode 0x0005800000000#50 = .rdReserved 0x0058 ∧
      decode 0x07FFC00000000#50 = .rdReserved 0x7FFC ∧
      decode 0x1001800000000#50 = .wrReserved 0x0018 0 ∧
      decode 0x1005000000005#50 = .wrReserved 0x0050 5 ∧
      decode 0x100C000000001#50 = .wrReserved 0x00C0 1 := by decide

/-- The numbering of the opcode table: bit 0 of the numeral is bit 0 of the word (log 8). -/
theorem test_table_word : decodeTableWord 56 0x1001400000001 = some (.wrPipeCmd 1) := by decide

/-! ## One step each, against `95_test_vectors` part 2 -/

theorem test_rd_tick_cnt :
    readsAs full 0x0000000000000 0x2B = true := by decide

theorem test_rd_slow_poll :
    readsAs full 0x0000400000000 0xC8 = true := by decide

theorem test_rd_pipe_ctrl :
    readsAs full 0x0001000000000 0x2 = true := by decide

theorem test_rd_pipe_cmd :
    readsAs full 0x0001400000000 0x0 = true := by decide

theorem test_rd_pipe_stat :
    readsAs full 0x0001800000000 0x81FF0103 = true := by decide

theorem test_rd_peak :
    readsAs full 0x0001C00000000 0x81 = true := by decide

theorem test_rd_overrun :
    readsAs full 0x0002000000000 0x2 = true := by decide

theorem test_rd_missed :
    readsAs full 0x0002400000000 0x5 = true := by decide

theorem test_rd_pb_div :
    readsAs full 0x0002800000000 0x105 = true := by decide

theorem test_rd_u1_ctrl :
    readsAs full 0x0004000000000 0x1 = true := by decide

theorem test_rd_u1_prescale :
    readsAs full 0x0004400000000 0x11 = true := by decide

theorem test_rd_u1_match0 :
    readsAs full 0x0004800000000 0x0 = true := by decide

theorem test_rd_u1_match1 :
    readsAs full 0x0004C00000000 0x0 = true := by decide

theorem test_rd_u1_count :
    readsAs full 0x0005000000000 0x12 = true := by decide

theorem test_rd_u1_role :
    readsAs full 0x0005400000000 0x0 = true := by decide

theorem test_rd_u2_ctrl :
    readsAs full 0x0006000000000 0x0 = true := by decide

theorem test_rd_u2_prescale :
    readsAs full 0x0006400000000 0x21 = true := by decide

theorem test_rd_u2_match0 :
    readsAs full 0x0006800000000 0x24 = true := by decide

theorem test_rd_u2_match1 :
    readsAs full 0x0006C00000000 0x0 = true := by decide

theorem test_rd_u2_count :
    readsAs full 0x0007000000000 0x22 = true := by decide

theorem test_rd_u2_role :
    readsAs full 0x0007400000000 0x1 = true := by decide

theorem test_rd_u3_ctrl :
    readsAs full 0x0008000000000 0x1 = true := by decide

theorem test_rd_u3_prescale :
    readsAs full 0x0008400000000 0x31 = true := by decide

theorem test_rd_u3_match0 :
    readsAs full 0x0008800000000 0x34 = true := by decide

theorem test_rd_u3_match1 :
    readsAs full 0x0008C00000000 0x35 = true := by decide

theorem test_rd_u3_count :
    readsAs full 0x0009000000000 0x32 = true := by decide

theorem test_rd_u3_role :
    readsAs full 0x0009400000000 0x2 = true := by decide

theorem test_rd_u4_ctrl :
    readsAs full 0x000A000000000 0x0 = true := by decide

theorem test_rd_u4_prescale :
    readsAs full 0x000A400000000 0x41 = true := by decide

theorem test_rd_u4_match0 :
    readsAs full 0x000A800000000 0x44 = true := by decide

theorem test_rd_u4_match1 :
    readsAs full 0x000AC00000000 0x45 = true := by decide

theorem test_rd_u4_count :
    readsAs full 0x000B000000000 0x42 = true := by decide

theorem test_rd_u4_role :
    readsAs full 0x000B400000000 0x3 = true := by decide

theorem test_rd_u3_role_in_tone_role :
    readsAs { ex with u3Tone := true } 0x0009400000000 0x102 = true := by decide

/-- The buffer of R180's example, and one word of it not written. -/
def stored : State := { ex with
  pool := [(0x8200, 0x10), (0x8201, 0x20), (0x8202, 0x30), (0x8203, 0x40), (0x87FF, 0x80)] }

theorem test_rd_buf_little_endian :
    readsAs stored 0x0820000000000 0x40302010 = true := by decide

theorem test_rd_buf_beyond_last_buffer :
    readsAs stored 0x0880000000000 0 = true := by decide

/-- A lane whose byte is unwritten is the free value, the written lane beside it is exact (R74). -/
theorem test_rd_buf_unwritten_lane (v : Word) (t : State)
    (h : exec (.rdBuf 0x87FC#16) stored = .next t) (hv : t.out.rdata = some v) :
    v.extractLsb' 24 8 = 0x80#8 := by
  obtain rfl := Host.Outcome.next.inj h
  obtain rfl := Option.some.inj hv
  show (stored.bufWord 0x87FC).extractLsb' 24 8 = 0x80#8
  rw [bufWord_lane stored 0x87FC 3 (by decide)]
  exact bufByte_written _ _ _ (by decide)

theorem test_rd_reserved :
    readsAs full 0x0004100000000 0 = true := by decide

theorem test_wr_buf :
    ignored stored 0x18200FFFFFFFF = true := by decide

theorem test_wr_reserved_misaligned :
    ignored full 0x1001100000002 = true := by decide

theorem test_wr_reserved_read_only :
    ignored full 0x1002000000005 = true := by decide

theorem test_evt_reserved :
    ignored full 0x2000400000000 = true := by decide

theorem test_op_reserved :
    ignored full 0x3FFFFFFFFFFFF = true := by decide

theorem test_tick_example :
    nextHas { ex with tickCnt := 41, slowPoll := 1 } 0x2000200000000 (fun t => t.tickCnt == 42 && t.slowPoll == 0) = true := by decide

theorem test_tick_saturates_and_floors :
    nextHas { ex with tickCnt := 0xFFFF, slowPoll := 0 } 0x2000200000000 (fun t => t.tickCnt == 0xFFFF && t.slowPoll == 0) = true := by decide

theorem test_wr_tick_cnt_ignores_data :
    nextHas full 0x10000FFFFFFFF (fun t => t.tickCnt == 0 && t.slowPoll == 0xC8) = true := by decide

theorem test_wr_slow_poll_reloads :
    nextHas { ex with slowPoll := 7 } 0x1000412345678 (fun t => t.slowPoll == 0xC8) = true := by decide

/-- U-G. -/
theorem test_clk_unit1_wraps :
    nextHas { ex with u1 := { en := true, prescale := 0, count := 0xFFFFFFFF, psc := 0 } } 0x2000100000000 (fun t => t.u1.count == 0) = true := by decide

/-- U-G. -/
theorem test_clk_unit2_match_at_full_width :
    nextHas { ex with u2 := { en := true, prescale := 0, count := 0xFFFFFFFF, psc := 0 }, u2Match0 := 0xFFFFFFFF } 0x2000100000000 (fun t => t.u2.count == 0 && t.clkOut) = true := by decide

/-- U-G. -/
theorem test_clk_prescale_at_full_width :
    nextHas { ex with u2 := { en := true, prescale := 0xFFFFFFFF, count := 0, psc := 0xFFFFFFFF }, u2Match0 := 9 } 0x2000100000000 (fun t => t.u2.psc == 0 && t.u2.count == 1) = true := by decide

/-- U-F. -/
theorem test_clk_skipped_clear_matches_at_once :
    nextHas { ex with u4 := { en := true, prescale := 0, count := 6, psc := 0 }, u4Match0 := 3 } 0x2000100000000 (fun t => t.u4.count == 0) = true := by decide

/-- U-F. -/
theorem test_clk_skipped_clear_of_prescaler :
    nextHas { ex with u1 := { en := true, prescale := 2, count := 0, psc := 6 } } 0x2000100000000 (fun t => t.u1.psc == 0 && t.u1.count == 1) = true := by decide

theorem test_clk_disarmed_holds :
    ignored { ex with u1 := { en := false, prescale := 0, count := 2, psc := 1 } } 0x2000100000000 = true := by decide

/-- U-H. -/
theorem test_clk_live_trigger :
    nextHas { ex with u3 := armed, capEn := true } 0x2000100000000 (fun t => t.out.adcTrigger && t.pbDiv == 0) = true := by decide

/-- U-H. -/
theorem test_clk_no_trigger_without_source :
    nextHas { ex with u3 := armed } 0x2000100000000 (fun t => !t.out.adcTrigger && t.pbDiv == 0) = true := by decide

/-- U-H. -/
theorem test_clk_tone_role_no_trigger :
    nextHas { ex with u3 := armed, u3Tone := true } 0x2000100000000 (fun t => !t.out.adcTrigger && tonePwm t) = true := by decide

/-- E5. -/
theorem test_clk_playback_step :
    nextHas { ex with u3 := armed, pbEn := true, pbDiv := 5 } 0x2000100000000 (fun t => t.pbDiv == 6 && !t.out.adcTrigger && !t.fpe) = true := by decide

/-- E6. -/
theorem test_clk_playback_edge :
    nextHas { ex with u3 := armed, pbEn := true, pbDiv := 511 } 0x2000100000000 (fun t => t.pbDiv == 0 && t.fpe && t.missedCount == 0) = true := by decide

/-- E7. -/
theorem test_clk_no_pacing_without_source :
    nextHas { ex with u3 := armed, pbDiv := 7 } 0x2000100000000 (fun t => t.pbDiv == 7) = true := by decide

/-- U-A step 6. -/
theorem test_wr_u1_ctrl_clear_and_arm :
    nextHas { ex with u1 := { en := true, prescale := 2, count := 3, psc := 1 } } 0x1004000000003 (fun t => t.u1 == { en := true, prescale := 2, count := 0, psc := 0 }) = true := by decide

/-- U-A step 4. -/
theorem test_wr_u1_ctrl_disarm_keeps :
    nextHas { ex with u1 := { en := true, prescale := 2, count := 2, psc := 1 } } 0x1004000000000 (fun t => t.u1 == { en := false, prescale := 2, count := 2, psc := 1 }) = true := by decide

/-- R130, example. -/
theorem test_wr_u2_ctrl_clear :
    nextHas { ex with u2 := { en := true, prescale := 0, count := 7, psc := 0 }, clkOut := true } 0x1006000000002 (fun t => !t.u2.en && t.u2.count == 0 && !t.clkOut) = true := by decide

/-- D13: 0 when disarmed; R135: the bit is held. -/
theorem test_wr_u2_ctrl_disarm_takes_output_low :
    nextHas { ex with u2 := { en := true, prescale := 0, count := 7, psc := 0 }, clkOut := true } 0x1006000000000 (fun t => !clkOutLevel t && t.clkOut && t.u2.count == 7) = true := by decide

theorem test_wr_u2_ctrl_arm_shows_stored_bit :
    nextHas { ex with clkOut := true } 0x1006000000001 (fun t => t.u2.en && t.clkOut && clkOutLevel t) = true := by decide

theorem test_wr_u3_ctrl_arm_under_session :
    nextHas { ex with capEn := true } 0x1008000000001 (fun t => t.u3.en) = true := by decide

theorem test_wr_u3_ctrl_disarm_under_session :
    faults { ex with u3 := armed, capEn := true } 0x1008000000000 (.toneDuringCapture 0x0080 0 true false) = true := by decide

theorem test_wr_u4_ctrl_disarm_under_session :
    nextHas { ex with u4 := armed, capEn := true } 0x100A000000000 (fun t => !t.u4.en) = true := by decide

theorem test_wr_u4_ctrl_clear :
    nextHas { ex with u4 := { en := true, prescale := 5, count := 4, psc := 3 } } 0x100A000000002 (fun t => t.u4 == { en := false, prescale := 5, count := 0, psc := 0 }) = true := by decide

theorem test_wr_u1_prescale :
    nextHas ex 0x1004480000047 (fun t => t.u1.prescale == 0x80000047) = true := by decide

theorem test_wr_u1_prescale_armed :
    faults { ex with u1 := armed } 0x1004400000000 (.reconfigWhileArmed .u1 4 0) = true := by decide

theorem test_wr_u2_prescale :
    nextHas ex 0x1006480000047 (fun t => t.u2.prescale == 0x80000047) = true := by decide

theorem test_wr_u2_prescale_armed :
    faults { ex with u2 := armed } 0x1006400000000 (.reconfigWhileArmed .u2 4 0) = true := by decide

theorem test_wr_u3_prescale :
    nextHas ex 0x1008480000047 (fun t => t.u3.prescale == 0x80000047) = true := by decide

theorem test_wr_u3_prescale_armed :
    faults { ex with u3 := armed } 0x1008400000000 (.reconfigWhileArmed .u3 4 0) = true := by decide

theorem test_wr_u4_prescale :
    nextHas ex 0x100A480000047 (fun t => t.u4.prescale == 0x80000047) = true := by decide

theorem test_wr_u4_prescale_armed :
    faults { ex with u4 := armed } 0x100A400000000 (.reconfigWhileArmed .u4 4 0) = true := by decide

theorem test_wr_u1_match0_ignored :
    ignored { ex with u1 := armed } 0x1004800000005 = true := by decide

theorem test_wr_u2_match0 :
    nextHas ex 0x100688000007C (fun t => t.u2Match0 == 0x8000007C) = true := by decide

theorem test_wr_u2_match0_armed :
    faults { ex with u2 := armed, u2Match0 := 1 } 0x1006800000001 (.reconfigWhileArmed .u2 8 1) = true := by decide

theorem test_wr_u3_match0 :
    nextHas ex 0x100888000007C (fun t => t.u3Match0 == 0x8000007C) = true := by decide

theorem test_wr_u3_match0_armed :
    faults { ex with u3 := armed, u3Match0 := 1 } 0x1008800000001 (.reconfigWhileArmed .u3 8 1) = true := by decide

theorem test_wr_u4_match0 :
    nextHas ex 0x100A88000007C (fun t => t.u4Match0 == 0x8000007C) = true := by decide

theorem test_wr_u4_match0_armed :
    faults { ex with u4 := armed, u4Match0 := 1 } 0x100A800000001 (.reconfigWhileArmed .u4 8 1) = true := by decide

theorem test_wr_u1_match1_ignored :
    ignored { ex with u1 := armed } 0x1004C00000005 = true := by decide

theorem test_wr_u2_match1_ignored :
    ignored { ex with u2 := armed } 0x1006C00000009 = true := by decide

theorem test_wr_u3_match1 :
    nextHas ex 0x1008C00000002 (fun t => t.u3Match1 == 2) = true := by decide

theorem test_wr_u3_match1_armed :
    faults { ex with u3 := armed } 0x1008C00000001 (.reconfigWhileArmed .u3 12 1) = true := by decide

/-- U-E, program PRG2. -/
theorem test_wr_u4_match1_while_armed :
    nextHas { ex with u4 := { en := true, prescale := 0, count := 4, psc := 0 }, u4Match0 := 7, u4Match1 := 2 } 0x100AC00000006 (fun t => t.u4Match1 == 6 && !blPwm t) = true := by decide

theorem test_wr_u1_role_ignored :
    ignored { ex with u1 := armed } 0x1005400000103 = true := by decide

theorem test_wr_u2_role_ignored :
    ignored { ex with u2 := armed } 0x1007400000103 = true := by decide

theorem test_wr_u4_role_ignored :
    ignored { ex with u4 := armed } 0x100B400000103 = true := by decide

theorem test_wr_u3_role_tone :
    nextHas ex 0x1009400000100 (fun t => t.u3Tone) = true := by decide

theorem test_wr_u3_role_armed_reports_f1_first :
    faults { ex with u3 := armed, capEn := true } 0x1009400000100 (.reconfigWhileArmed .u3 20 0x100) = true := by decide

theorem test_wr_pipe_ctrl_switch_source :
    nextHas { ex with capEn := true } 0x1001000000002 (fun t => !t.capEn && t.pbEn) = true := by decide

theorem test_wr_pipe_ctrl_both_before_tone :
    faults { ex with u3Tone := true } 0x1001000000003 (.bothSourcesEnabled 3) = true := by decide

/-- A-D step 6. -/
theorem test_wr_pipe_cmd_all_under_session :
    nextHas { ex with capEn := true, readyCount := 1, fpe := true, putIndex := 1, overrunCount := 2 } 0x1001400000007 (fun t => t.readyCount == 0 && !t.fpe && t.putIndex == 1 && t.overrunCount == 2) = true := by decide

/-- A-D step 7. -/
theorem test_wr_pipe_cmd_all_without_source :
    nextHas { full with pbEn := false } 0x1001400000007 (fun t => pipeStatWord t == 0 && t.overrunCount == 0 && t.missedCount == 0 && t.pbDiv == 0 && t.peak == 0) = true := by decide

/-- R160, example. -/
theorem test_adc_example :
    nextHas { ex with capEn := true, fillOffset := 5, peak := 0x10 } 0x2000300000204 (fun t => t.pool == [(0x8005, 0x81)] && t.peak == 0x81 && t.fillOffset == 6) = true := by decide

/-- A-F. -/
theorem test_adc_saturates_at_completion :
    nextHas { ex with capEn := true, fillOffset := 511, readyCount := 3, putIndex := 3, overrunCount := 0xFFFFFFFF, fpe := true, missedCount := 0xFFFFFFFE } 0x2000300000000 (fun t => t.overrunCount == 0xFFFFFFFF && t.missedCount == 0xFFFFFFFF && t.readyCount == 3 && t.putIndex == 0 && t.fillOffset == 0 && t.fpe) = true := by decide

theorem test_evt_reset :
    nextHas full 0x2000000000000 (fun t => decide (t = { ex with epoch := 1 })) = true := by decide

/-! ## Every statement with hypotheses has a state and operands that meet them -/
/-- A live session about to complete a buffer with `N-1` ready: the ceilings of R45 are met. -/
def live : State := { full with capEn := true, pbEn := false }

/-- A playback session with unit 3 fresh, prescaler 1 and match 3. -/
def playing : State := { ex with
  pbEn := true, pbDiv := 510, fpe := true
  u3 := { en := true, prescale := 1, count := 0, psc := 0 }, u3Match0 := 3 }

theorem inv_ex : Inv ex :=
  ⟨by decide, by decide, by decide, by decide, by decide, by decide, by decide, by decide, by decide⟩

theorem inv_live : Inv live :=
  ⟨by decide, by decide, by decide, by decide, by decide, by decide, by decide, by decide, by decide⟩

theorem inv_full : Inv full :=
  ⟨by decide, by decide, by decide, by decide, by decide, by decide, by decide, by decide, by decide⟩

/-- The invariant is not empty of meaning: a state with both sources is refused. -/
theorem not_inv_both_sources : ¬ Inv { ex with capEn := true, pbEn := true } :=
  fun h => absurd ⟨rfl, rfl⟩ h.oneSource

theorem witness_StepPerformsDecodedOperation :
    ({ ex with trace := [0x2000200000000#50, 0#50] } : State).trace = 0x2000200000000#50 :: [0#50] ∧
      decode 0x2000200000000#50 = .evtTick := by decide

theorem witness_EmptyTraceEndsRun : ex.trace = [] := by decide

theorem witness_TraceOfWordsRunsOperations :
    ∀ i ∈ [Instr.wrPipeCtrl 1, .evtAdcDone 0xFFFFFFFF, .rdBuf 0x8000, .rdReserved 0xFFFF,
      .wrReserved 0x7FFF 1, .evtReserved 4], i.wellFormed = true := by decide

theorem witness_DecodeEncodeRoundTrip :
    (Instr.rdBuf 0x8000).wellFormed = true ∧ (Instr.rdBuf 0xFFFC).wellFormed = true ∧
      (Instr.rdReserved 0x0058).wellFormed = true ∧ (Instr.wrBuf 0xFFFF 1).wellFormed = true ∧
      (Instr.wrReserved 0x0018 1).wellFormed = true ∧ (Instr.evtReserved 0x0004).wellFormed = true ∧
      (Instr.opReserved 0xFFFF).wellFormed = true := by decide

theorem witness_EncodeDecodeRoundTrip :
    OpWord.wellFormed 0x20003FFFFFFFF#50 = true ∧ OpWord.wellFormed 0x3FFFF00000000#50 = true := by
  decide

/-- Both clauses, with more `TICK`s than the ceiling 1 and the period 1. -/
theorem witness_TickCountsAfterClearAndReload :
    Instr.evtReset ∉ [Instr.evtTick, .evtTick] ∧
      (∀ v, Instr.wrTickCnt v ∉ [Instr.evtTick, .evtTick]) ∧
      (∀ v, Instr.wrSlowPoll v ∉ [Instr.evtTick, .evtTick]) ∧
      (∃ t, runOps [.wrTickCnt 0, .evtTick, .evtTick]
        { ex with cfg := { ex.cfg with tickMax := 1, spPeriod := 1 } } = .next t) ∧
      (∃ t, runOps [.wrSlowPoll 0, .evtTick, .evtTick]
        { ex with cfg := { ex.cfg with tickMax := 1, spPeriod := 1 } } = .next t) :=
  ⟨by decide, by intro v; simp, by intro v; simp, ⟨_, rfl⟩, ⟨_, rfl⟩⟩

/-- One operation that meets the premises of all three clauses. -/
theorem witness_TickServiceIndependent :
    (∃ t, exec (.wrPipeCmd 7) full = .next t) ∧ Instr.wrPipeCmd 7 ≠ .evtReset ∧
      Instr.wrPipeCmd 7 ≠ .evtTick ∧ (∀ w, Instr.wrPipeCmd 7 ≠ .wrTickCnt w) ∧
      (∀ w, Instr.wrPipeCmd 7 ≠ .wrSlowPoll w) ∧ Instr.wrPipeCmd 7 ≠ .rdTickCnt ∧
      Instr.wrPipeCmd 7 ≠ .rdSlowPoll :=
  ⟨⟨_, rfl⟩, by decide, by decide, by intro w; simp, by intro w; simp, by decide, by decide⟩

/-- Both clauses: `n = TICK_MAX` with exactly `n` `TICK`s, and `n = TICK_MAX + 1`. -/
theorem witness_BusyWaitEndsAfterEnoughTicks :
    let s : State := { ex with tickCnt := 9, cfg := { ex.cfg with tickMax := 2 } }
    (∀ events ∈ [Instr.evtTick] :: [[Instr.evtTick], [.evtClk, .evtTick]], ∀ i ∈ events,
        i.opClass = .evt ∧ i ≠ .evtReset) ∧
      [[Instr.evtTick], [.evtClk, .evtTick]] ≠ [] ∧
      (2#32).toNat ≤ s.cfg.tickMax.toNat ∧
      (2#32).toNat ≤ [[Instr.evtTick], [.evtClk, .evtTick]].flatten.count .evtTick ∧
      s.cfg.tickMax.toNat < (3#32).toNat := by decide

/-- The three values are those of a playback edge. -/
theorem witness_ClkAdvancesTheUnits :
    let s : State := { ex with u3 := armed, pbEn := true, pbDiv := 511 }
    true = (matchesNow s.u3Match0 s.u3 && !s.u3Tone) ∧ true = (true && s.pbEn) ∧
      true = (true && decide (s.pbDiv = 511#9)) := by decide

theorem witness_ClkUnitOrderUnobservable :
    [UnitId.u4, .u2, .u3, .u1].Perm [.u1, .u2, .u3, .u4] := by decide

theorem witness_UnitCountingPeriods :
    let s : State := { ex with u1 := armed, u2 := armed, u3 := armed, u4 := armed }
    Fresh s.u1 ∧ Fresh s.u2 ∧ Fresh s.u3 ∧ Fresh s.u4 :=
  ⟨⟨rfl, rfl, rfl⟩, ⟨rfl, rfl, rfl⟩, ⟨rfl, rfl, rfl⟩, ⟨rfl, rfl, rfl⟩⟩

theorem witness_ClockOutAndTriggerPeriods :
    let s : State := { ex with u2 := armed, u3 := armed, capEn := true }
    Fresh s.u2 ∧ Fresh s.u3 ∧ 1 ≤ 1 ∧ s.u2.en = true ∧
      ({ ex with clkOut := true } : State).u2.en = false :=
  ⟨⟨rfl, rfl, rfl⟩, ⟨rfl, rfl, rfl⟩, Nat.le_refl 1, rfl, rfl⟩

/-- Sixteen `CLK`s are two sample periods, and with `pb_div = 510` one edge. -/
theorem witness_PlaybackPacingCadence :
    playing.pbEn = true ∧ playing.u3Tone = false ∧ Fresh playing.u3 ∧
      2 = 16 / ((playing.u3.prescale.toNat + 1) * (playing.u3Match0.toNat + 1)) ∧
      1 = (playing.pbDiv.toNat + 2) / 512 :=
  ⟨rfl, rfl, ⟨rfl, rfl, rfl⟩, by decide, by decide⟩

theorem witness_WriteMatch1 : ∃ t, exec (.wrU4Match1 6) ex = .next t := ⟨_, rfl⟩

theorem witness_PwmDutyIsInverted :
    ({ ex with u4 := armed, u4Match0 := 3, u4Match1 := 4 } : State).u4.en = true ∧
      ({ ex with u3 := armed, u3Tone := true } : State).u3.en = true ∧
      ({ ex with u3 := armed, u3Tone := true } : State).u3Tone = true := by decide

theorem witness_SampleIsTopEightBits : (8 ≤ 8 ∧ 8 ≤ 32) ∧ (8 ≤ 32 ∧ 32 ≤ 32) := by decide

theorem witness_AdcDroppedWithoutLiveSource : full.capEn = false ∧ full.pbEn = true := by decide

/-- The last offset that does not complete, and the first. -/
theorem witness_AdcStoresSample :
    let s : State := { live with fillOffset := 510 }
    let z : State := { live with fillOffset := 0 }
    (s.capEn = true ∧ s.fillOffset ≠ 511#9 ∧ (0x81#8 : Byte) = sampleOf s.cfg.adcW 0x204 ∧
      0x83FE = 0x8000 + 512 * s.putIndex.toNat + s.fillOffset.toNat) ∧
      (z.capEn = true ∧ z.fillOffset ≠ 511#9 ∧
        0x8200 = 0x8000 + 512 * z.putIndex.toNat + z.fillOffset.toNat) := by decide

theorem witness_AdcCompletesBuffer :
    live.capEn = true ∧ live.fillOffset = 511#9 ∧ 0x83FF = 0x8000 + 512 * live.putIndex.toNat + 511 := by
  decide

theorem witness_ProducerIgnoresConsumerState :
    (∃ t, exec (.evtAdcDone 0x204) live = .next t) ∧
      ∃ t', exec (.evtAdcDone 0x204) { live with
        readyCount := 0, fpe := false, overrunCount := 0, missedCount := 0 } = .next t' :=
  ⟨⟨_, rfl⟩, ⟨_, rfl⟩⟩

theorem witness_CapturedSamplesFillTheBuffer :
    let s : State := { live with fillOffset := 0 }
    s.capEn = true ∧ s.fillOffset = 0 ∧ (List.replicate 512 (0x204 : Word)).length ≤ 512 :=
  ⟨rfl, rfl, List.length_replicate.le⟩

theorem witness_PeakIsMaximumOfTheFill :
    let s : State := { live with fillOffset := 0, peak := 0 }
    s.capEn = true ∧ s.fillOffset = 0 ∧ s.peak = 0 ∧ [(0x204 : Word), 0x3FF].length ≤ 512 ∧
      (List.replicate 512 (0x204 : Word)).length ≤ 512 :=
  ⟨rfl, rfl, rfl, by decide, List.length_replicate.le⟩

theorem witness_UndrainedCaptureCounts :
    let s : State := { ex with capEn := true }
    s.cfg.wf ∧ s.capEn = true ∧ s.fillOffset = 0 ∧ s.putIndex = 0 ∧ s.readyCount = 0 ∧
      s.overrunCount = 0 ∧ s.missedCount = 0 ∧ s.fpe = false ∧
      4 = (List.replicate 2048 (0 : Word)).length / 512 :=
  ⟨by decide, rfl, rfl, rfl, rfl, rfl, rfl, rfl, by rw [List.length_replicate]⟩

/-- A run with a conversion, a drain that finds nothing and a dropped conversion. -/
theorem witness_PipelineCountingLaws :
    let s : State := { ex with capEn := true }
    let is : List Instr := [.evtAdcDone 1, .wrPipeCmd 3, .wrPipeCtrl 0, .evtAdcDone 2]
    Inv s ∧ s.fillOffset = 0 ∧ s.putIndex = 0 ∧ s.readyCount = 0 ∧ s.overrunCount = 0 ∧
      (∀ i ∈ is, i ≠ .evtReset ∧ isSessionReset i = false) ∧
      ∃ t c, runTally is s { conversions := 0, completions := 0, drains := 0 } = some (t, c) ∧
        t.overrunCount ≠ 0xFFFFFFFF#32 :=
  ⟨⟨by decide, by decide, by decide, by decide, by decide, by decide, by decide, by decide, by decide⟩,
    rfl, rfl, rfl, rfl, by decide, _, _, rfl, by decide⟩

/-- The operation is a completion that finds `N-1` buffers ready. -/
theorem witness_ReadyBuffersAreTheDrainQueue :
    Inv live ∧ readyBuffers live = [2, 3, 0] ∧ ∃ t, exec (.evtAdcDone 0x204) live = .next t :=
  ⟨inv_live, by decide, _, rfl⟩

theorem witness_OldestReadyFormula :
    Inv live ∧ live.readyCount ≠ 0 ∧ oldestReady 4 (pipeStatWord live) = 2 :=
  ⟨inv_live, by decide, by decide⟩

/-- In the run the buffer that was ready is drained by somebody else before the poll. -/
theorem witness_DrainOneAndDrainAllTakeReadyBuffers :
    ex.readyCount = 0 ∧ live.readyCount ≠ 0 ∧
      ∃ t, runHost [[.wrPipeCmd 1]] (hostDrainAll 4) { ex with readyCount := 1 } = .next (t, .done) :=
  ⟨rfl, by decide, _, rfl⟩

/-- `clean` is true in the one state and false in the other. -/
theorem witness_WritePipeCmd :
    (True ↔ (7#32).getLsbD 2 = true ∧ ex.capEn = false ∧ ex.pbEn = false) ∧
      (False ↔ (7#32).getLsbD 2 = true ∧ live.capEn = false ∧ live.pbEn = false) := by decide

/-- The last word of the last buffer, the first word beyond it, and the last word of the window. -/
theorem witness_ReadBufferWindow :
    (3 < 64 ∧ 508 < 512 ∧ 508 % 4 = 0 ∧ (0x87FC : Addr) = BitVec.ofNat 16 (0x8000 + 512 * 3 + 508) ∧
        3 < ex.cfg.bufCount) ∧
      (4 < 64 ∧ 0 < 512 ∧ 0 % 4 = 0 ∧ (0x8800 : Addr) = BitVec.ofNat 16 (0x8000 + 512 * 4 + 0) ∧
        ex.cfg.bufCount ≤ 4) ∧
      (63 < 64 ∧ (0xFFFC : Addr) = BitVec.ofNat 16 (0x8000 + 512 * 63 + 508) ∧
        ex.cfg.bufCount ≤ 63) := by decide

theorem witness_ReservedEncodingsDoNothing :
    0x8000 ≤ (0x8000#16).toNat ∧ 0x8000 ≤ (0xFFFF#16).toNat ∧ 0x0004 ≤ (0x0004#16).toNat ∧
      (0b11#2 : BitVec 2) = 0b11#2 := by decide

/-- Each clause, at the ends of its range. -/
theorem witness_ReservedWordsDecodeAsReserved :
    aligned 0x0001#16 = false ∧ aligned 0xFFFF#16 = false ∧
      (0x00C0 ≤ (0x00C0#16).toNat ∧ (0x00C0#16).toNat < 0x8000) ∧
      (0x00C0 ≤ (0x7FFF#16).toNat ∧ (0x7FFF#16).toNat < 0x8000) ∧
      (aligned 0x7FFF#16 = false ∧ inWindow 0x7FFF#16 = false) ∧
      inWindow 0x8000#16 = true ∧ inWindow 0xFFFF#16 = true ∧
      4 ≤ (0x0004#16).toNat ∧ 4 ≤ (0xFFFF#16).toNat := by decide

theorem witness_StepKeepsInvariants :
    let s : State := { live with trace := [0x2000300000204#50] }
    Inv s ∧ ∃ t, step s = .next t :=
  ⟨⟨by decide, by decide, by decide, by decide, by decide, by decide, by decide, by decide, by decide⟩,
    _, rfl⟩

/-- A completion at the ceiling in a session, and a pacing step in playback. -/
theorem witness_DiagnosticCountersMonotone :
    (∃ t, exec (.evtAdcDone 0x204) live = .next t) ∧ live.capEn = true ∧
      (∃ t, exec .evtClk playing = .next t) ∧ playing.pbEn = true ∧
      Instr.evtAdcDone 0x204 ≠ .evtReset ∧ Instr.evtClk ≠ .evtReset :=
  ⟨⟨_, rfl⟩, rfl, ⟨_, rfl⟩, rfl, by decide, by decide⟩

theorem witness_ReadsHaveNoSideEffect :
    Instr.opClass (.rdReserved 0x8001) = .rd ∧ Instr.opClass .rdPipeStat = .rd := by decide

/-- A command that is no `SESSION_RESET`, a read, and an event. -/
theorem witness_FieldOwnership :
    (∃ t, exec (.wrPipeCmd 3) live = .next t) ∧ Instr.opClass (.wrPipeCmd 3) = .wr ∧
      isSessionReset (.wrPipeCmd 3) = false ∧ Instr.opClass .rdPeak = .rd ∧
      isSessionReset .rdPeak = false ∧ (∃ t, exec .evtClk live = .next t) ∧
      Instr.opClass .evtClk = .evt ∧ Instr.evtClk ≠ .evtReset :=
  ⟨⟨_, rfl⟩, rfl, by decide, rfl, rfl, ⟨_, rfl⟩, rfl, by decide⟩

theorem witness_ClkAndAdcDoneCommute :
    ¬ (live.capEn = true ∧ live.pbEn = true) ∧
      (∃ t, runOps [.evtClk, .evtAdcDone 0x204] live = .next t) ∧
      ∃ t', runOps [.evtAdcDone 0x204, .evtClk] live = .next t' :=
  ⟨by decide, ⟨_, rfl⟩, ⟨_, rfl⟩⟩

theorem witness_TickCommutesWithClkAndAdcDone :
    (∃ t, runOps [.evtTick, .evtClk] live = .next t) ∧
      (∃ t, runOps [.evtClk, .evtTick] live = .next t) ∧
      (∃ t, runOps [.evtTick, .evtAdcDone 0x204] live = .next t) ∧
      ∃ t, runOps [.evtAdcDone 0x204, .evtTick] live = .next t :=
  ⟨⟨_, rfl⟩, ⟨_, rfl⟩, ⟨_, rfl⟩, ⟨_, rfl⟩⟩

theorem witness_UnitCfgConfiguresTheUnit : (UnitId.u3 = .u3 → ex.srcOn = false) := by decide

/-- A tone during a session, and one as long as the Tick Counter allows with no source. -/
theorem witness_ToneTakesAndRestoresUnit3 :
    (live.u3.en = true ∧ live.srcOn = true) ∧
      ex.srcOn = false ∧ (65535#32).toNat ≤ ex.cfg.tickMax.toNat := by decide

theorem witness_SessionAndPollingSequences : ex.srcOn = false ∧ ex.u3Tone = false := by decide

/-! ## Parts of the statements on one concrete input, from `95_test_vectors` -/

/-- The drain queue after that completion drops its oldest buffer: PRG3's `0x80000203` to the next. -/
theorem test_queue_overrun_drops_oldest :
    queueOp (.evtAdcDone 0x204) live (readyBuffers live) = [3, 0, 1] := by decide

/-- A-G: `PIPE_STAT = 0x80000103`, `0x80000101`, `0x80000003` with `N = 4`. -/
theorem test_oldest_ready :
    oldestReady 4 0x80000103 = 2 ∧ oldestReady 4 0x80000101 = 0 ∧ oldestReady 4 0x80000003 = 1 := by
  decide

/-- A-A, the widths 8, 10 and 12. -/
theorem test_sample_widths :
    sampleOf 10 0x3FF = 0xFF ∧ sampleOf 10 0x003 = 0 ∧ sampleOf 10 0xFFFFFE04 = 0x81 ∧
      sampleOf 8 0x1AB = 0xAB ∧ sampleOf 12 0x010 = 0x01 ∧ sampleOf 32 0xAB000000 = 0xAB := by decide

/-- Whether a host sequence under a schedule ends, in a state with a property. -/
def endsIn (sched : List (List Instr)) (q : HostSeq) (s : State) (p : State → Bool) : Bool :=
  match runHost sched q s with
  | .next (t, r) => decide (r = .done) && p t
  | .fault _ => false
  | .refused _ => false

/-- R210: with nothing ready `drain_all` still polls once; a buffer completed before that poll is drained. -/
theorem test_drain_all_polls :
    endsIn [[]] (hostDrainAll 4) ex (fun t => t.out.rdata == some 0) = true ∧
      endsIn ([.evtAdcDone 0x204] :: List.replicate 130 []) (hostDrainAll 4)
        { ex with capEn := true, fillOffset := 511 }
        (fun t => t.readyCount == 0 && t.out.rdata == some 0x80000100) = true := by decide

/-- R211, R213: `SLOW_POLL` reads 0 once the last `TICK` came before it; the edge is cleared where set. -/
theorem test_slow_poll_and_frame_wait :
    endsIn [[.evtTick], []] hostSlowPollCheck { ex with slowPoll := 1 }
        (fun t => t.slowPoll == 200) = true ∧
      endsIn [[], []] hostSlowPollCheck { ex with slowPoll := 1 } (fun t => t.slowPoll == 1) = true ∧
      endsIn [[], []] hostFrameWait { ex with fpe := true } (fun t => !t.fpe) = true := by decide

/-- R208: a tone of two `TICK`s between the polls, after which unit 3 is as it was. -/
theorem test_tone_restores :
    endsIn (List.replicate 11 [] ++ [[.evtTick], [.evtTick]] ++ List.replicate 7 [])
      (hostTone 99 50 2) { ex with
        u3 := { en := true, prescale := 7, count := 3, psc := 1 }, u3Match0 := 124, u3Match1 := 5 }
      (fun t => t.u3 == { en := true, prescale := 7, count := 0, psc := 0 } && !t.u3Tone &&
        t.u3Match0 == 124 && t.u3Match1 == 5) = true := by decide

/-- The memory after reset has the canonical form, and so has every pool a store leaves. -/
theorem test_reset_pool_canonical : Memory.wf State.reset.pool := memory_wf_nil

end Sys2Proof.Tests
end

/-! PROOF. The invariants of `10_state` R45: what an operation can do to the state is said once
(`exec_effect`), and the reset state, the invariants and the diagnostic counters are settled from it. -/

namespace Sys2Proof.Machine

open Sys2Proof

/-! ## Operations that leave the fields of R45 alone -/

/-- From `s` to `t` every field that R45 speaks of is unchanged, but that missed frames may have been
counted. -/
structure KeepsGuarded (s t : State) : Prop where
  /-- The parameters are unchanged. -/
  cfg : t.cfg = s.cfg
  /-- `tick_cnt` is unchanged. -/
  tickCnt : t.tickCnt = s.tickCnt
  /-- `slow_poll` is unchanged. -/
  slowPoll : t.slowPoll = s.slowPoll
  /-- `put_index` is unchanged. -/
  putIndex : t.putIndex = s.putIndex
  /-- `ready_count` is unchanged. -/
  readyCount : t.readyCount = s.readyCount
  /-- `cap_en` is unchanged. -/
  capEn : t.capEn = s.capEn
  /-- `pb_en` is unchanged. -/
  pbEn : t.pbEn = s.pbEn
  /-- `U3.TONE` is unchanged. -/
  u3Tone : t.u3Tone = s.u3Tone
  /-- The pool is unchanged. -/
  pool : t.pool = s.pool
  /-- `overrun_count` is unchanged. -/
  overrunCount : t.overrunCount = s.overrunCount
  /-- `missed_count` does not go down. -/
  missedCount : s.missedCount.toNat ≤ t.missedCount.toNat

namespace KeepsGuarded

theorem refl (s : State) : KeepsGuarded s s := by
  constructor <;> rfl

theorem trans {s t u : State} (h : KeepsGuarded s t) (h' : KeepsGuarded t u) : KeepsGuarded s u where
  cfg := h'.cfg.trans h.cfg
  tickCnt := h'.tickCnt.trans h.tickCnt
  slowPoll := h'.slowPoll.trans h.slowPoll
  putIndex := h'.putIndex.trans h.putIndex
  readyCount := h'.readyCount.trans h.readyCount
  capEn := h'.capEn.trans h.capEn
  pbEn := h'.pbEn.trans h.pbEn
  u3Tone := h'.u3Tone.trans h.u3Tone
  pool := h'.pool.trans h.pool
  overrunCount := h'.overrunCount.trans h.overrunCount
  missedCount := h.missedCount.trans h'.missedCount

/-- An outcome has one next state. -/
theorem of_next {s t u : State} (hu : KeepsGuarded s u)
    (h : (.next u : Host.Outcome State Fault Refusal) = .next t) : KeepsGuarded s t :=
  Host.Outcome.next.inj h ▸ hu

/-- Nothing R45 bounds has moved, so its invariants stay. -/
theorem inv {s t : State} (h : KeepsGuarded s t) (hs : Inv s) : Inv t where
  cfgWf := by rw [h.cfg]; exact hs.cfgWf
  tickLe := by rw [h.cfg, h.tickCnt]; exact hs.tickLe
  slowLe := by rw [h.cfg, h.slowPoll]; exact hs.slowLe
  putLt := by rw [h.cfg, h.putIndex]; exact hs.putLt
  readyLt := by rw [h.cfg, h.readyCount]; exact hs.readyLt
  oneSource := by rw [h.capEn, h.pbEn]; exact hs.oneSource
  toneNoSource := by
    rw [State.srcOn, h.capEn, h.pbEn, h.u3Tone]
    exact hs.toneNoSource
  poolWf := by rw [h.pool]; exact hs.poolWf
  poolInWindow := by rw [h.pool, h.cfg]; exact hs.poolInWindow

theorem withTrace (s : State) (l : List OpWord) : KeepsGuarded s (s.withTrace l) := by
  constructor <;> rfl

theorem quiet (s : State) : KeepsGuarded s s.quiet := by
  constructor <;> rfl

theorem answer (s : State) (v : Word) : KeepsGuarded s (s.answer v) := by
  constructor <;> rfl

theorem emitTrigger (s : State) : KeepsGuarded s s.emitTrigger := by
  constructor <;> rfl

theorem setUnit (s : State) (k : UnitId) (u : TimerUnit) : KeepsGuarded s (s.setUnit k u) := by
  constructor <;> simp

theorem setMatch0 (s : State) (k : UnitId) (v : Word) : KeepsGuarded s (s.setMatch0 k v) := by
  constructor <;> simp

theorem updatePeak (v : Byte) (s : State) : KeepsGuarded s (updatePeak v s) := by
  constructor <;> rfl

theorem edgeClr (s : State) : KeepsGuarded s (edgeClr s) := by
  constructor <;> rfl

/-- Setting the edge may count a missed frame (R190). -/
theorem edgeSet (s : State) : KeepsGuarded s (edgeSet s) := by
  refine ⟨rfl, rfl, rfl, rfl, rfl, rfl, rfl, rfl, rfl, rfl, ?_⟩
  rw [edgeSet_missedCount]
  split
  · exact le_satInc _ _
  · exact le_rfl

/-! ### One `CLK` (`41_timer_units` R121 to R128) -/

theorem paceStep (s : State) : KeepsGuarded s (paceStep s) := by
  unfold Machine.paceStep
  split
  · have hdiv : KeepsGuarded s { s with pbDiv := 0 } := by constructor <;> rfl
    exact hdiv.trans (edgeSet _)
  · constructor <;> rfl

theorem samplePeriodEdge (s : State) : KeepsGuarded s (samplePeriodEdge s) := by
  have htrigger : KeepsGuarded s (if s.capEn = true then s.emitTrigger else s) := by
    split
    · exact emitTrigger s
    · exact refl s
  rw [samplePeriodEdge_eq]
  split
  · exact refl s
  · split
    · exact htrigger.trans (paceStep _)
    · exact htrigger

theorem clockUnit (k : UnitId) (s : State) : KeepsGuarded s (clockUnit k s) := by
  cases k with
  | u1 => rw [clockUnit_u1]; exact setUnit s .u1 _
  | u2 =>
    rw [clockUnit_u2]
    constructor <;> rfl
  | u3 =>
    have hcount : KeepsGuarded s { s with u3 := runToMatch s.u3Match0 s.u3 } := setUnit s .u3 _
    rw [clockUnit_u3]
    split
    · exact hcount.trans (samplePeriodEdge _)
    · exact hcount
  | u4 => rw [clockUnit_u4]; exact setUnit s .u4 _

theorem of_execEvtClk {s t : State} (h : execEvtClk s = .next t) : KeepsGuarded s t :=
  of_next ((quiet s).trans <| (clockUnit .u1 _).trans <| (clockUnit .u2 _).trans <|
    (clockUnit .u3 _).trans (clockUnit .u4 _)) h

/-! ### Reads, and writes of the timer units -/

theorem writeCtrl (k : UnitId) (w : Word) (s : State) : KeepsGuarded s (writeCtrl k w s) := by
  rw [writeCtrl_eq]
  constructor <;> simp

theorem setU3Match1 (s : State) (v : Word) : KeepsGuarded s { s with u3Match1 := v } := by
  constructor <;> rfl

theorem setU4Match1 (s : State) (v : Word) : KeepsGuarded s { s with u4Match1 := v } := by
  constructor <;> rfl

theorem of_writePrescale {s t : State} {k : UnitId} {w : Word} (h : writePrescale k w s = .next t) :
    KeepsGuarded s t := by
  obtain ⟨-, rfl⟩ := writePrescale_next k w s t h
  exact (quiet s).trans (setUnit _ _ _)

theorem of_writeMatch0 {s t : State} {k : UnitId} {w : Word} (h : writeMatch0 k w s = .next t) :
    KeepsGuarded s t := by
  obtain ⟨-, rfl⟩ := writeMatch0_next k w s t h
  exact (quiet s).trans (setMatch0 _ _ _)

theorem of_execWrU3Ctrl {s t : State} {w : Word} (h : execWrU3Ctrl w s = .next t) :
    KeepsGuarded s t := by
  unfold execWrU3Ctrl at h
  split at h
  · cases h
  · exact of_next ((quiet s).trans (writeCtrl _ _ _)) h

theorem of_execWrU3Match1 {s t : State} {w : Word} (h : execWrU3Match1 w s = .next t) :
    KeepsGuarded s t := by
  unfold execWrU3Match1 at h
  split at h
  · cases h
  · exact of_next ((quiet s).trans (setU3Match1 _ w)) h

end KeepsGuarded

/-! ## What an operation can do to the fields of R45 -/

/-- The state after the commands that `WR.PIPE_CMD` writes 1 (`42_audio_pipeline` R171). -/
def pipeCmdState (w : Word) (s : State) : State :=
  let s1 := if fieldDrain w then drain s.quiet else s.quiet
  let s2 := if fieldEdgeClr w then edgeClr s1 else s1
  if fieldSessionReset w then sessionReset s2 else s2

theorem execWrPipeCmd_eq (w : Word) (s : State) : execWrPipeCmd w s = .next (pipeCmdState w s) := rfl

/-- What a completed operation did: it left the fields of R45 alone, or it is one of eight that write
them. -/
inductive Effect (s : State) : Instr → State → Prop where
  /-- A read, a timer write, `CLK`, or an operation that does nothing. -/
  | keeps {i t} : KeepsGuarded s t → Effect s i t
  /-- `WR.TICK_CNT` (R102). -/
  | clearTickCnt (w) : Effect s (.wrTickCnt w) { s.quiet with tickCnt := 0 }
  /-- `WR.SLOW_POLL` (R104). -/
  | reloadSlowPoll (w) : Effect s (.wrSlowPoll w) { s.quiet with slowPoll := s.cfg.spPeriod }
  /-- `WR.PIPE_CTRL` without F3 and F2 (R169). -/
  | selectSource (w) : ¬ (fieldCapEn w = true ∧ fieldPbEn w = true) →
      ¬ (s.u3Tone = true ∧ (fieldCapEn w || fieldPbEn w) = true) →
      Effect s (.wrPipeCtrl w) { s.quiet with capEn := fieldCapEn w, pbEn := fieldPbEn w }
  /-- `WR.PIPE_CMD` (R171). -/
  | command (w) : Effect s (.wrPipeCmd w) (pipeCmdState w s)
  /-- `WR.U3_ROLE` that changes the role, without F2 (R136). -/
  | changeRole (w) : ¬ (fieldTone w = true ∧ s.srcOn = true) →
      Effect s (.wrU3Role w) { s.quiet with u3Tone := fieldTone w }
  /-- `EVT.RESET` (R255). -/
  | reset {t} : execEvtReset s = .next t → Effect s .evtReset t
  /-- `EVT.TICK` (R100). -/
  | tick : Effect s .evtTick { s.quiet with
      tickCnt := satInc s.cfg.tickMax s.tickCnt, slowPoll := decFloor0 s.slowPoll }
  /-- `EVT.ADC_DONE` of a performed conversion (R160). -/
  | convert (data) : s.capEn = true → Effect s (.evtAdcDone data) (produce data s.quiet)

theorem execWrPipeCtrl_effect {w : Word} {s t : State} (h : execWrPipeCtrl w s = .next t) :
    Effect s (.wrPipeCtrl w) t := by
  unfold execWrPipeCtrl at h
  split at h
  · cases h
  · rename_i hboth
    split at h
    · cases h
    · rename_i htone
      obtain rfl := Host.Outcome.next.inj h
      refine .selectSource w (by simpa using hboth) fun ⟨ht, hsrc⟩ => htone ?_
      rw [ht, hsrc, Bool.and_true]

theorem execWrU3Role_effect {w : Word} {s t : State} (h : execWrU3Role w s = .next t) :
    Effect s (.wrU3Role w) t := by
  unfold execWrU3Role at h
  split at h
  · exact .keeps (.of_next (.quiet s) h)
  · split at h
    · cases h
    · split at h
      · cases h
      · rename_i hsrc
        obtain rfl := Host.Outcome.next.inj h
        exact .changeRole w (by simpa using hsrc)

theorem execEvtAdcDone_effect {data : Word} {s t : State} (h : execEvtAdcDone data s = .next t) :
    Effect s (.evtAdcDone data) t := by
  obtain rfl := Host.Outcome.next.inj h
  split
  · rename_i hcap
    exact .convert data hcap
  · exact .keeps (.quiet s)

/-- Everything a completed operation can have done to the fields of R45. -/
theorem exec_effect {i : Instr} {s t : State} (h : exec i s = .next t) : Effect s i t := by
  cases i with
  | rdTickCnt | rdSlowPoll | rdPipeCtrl | rdPipeCmd | rdPipeStat | rdPeak | rdOverrun | rdMissed | rdPbDiv
  | rdU1Ctrl | rdU1Prescale | rdU1Match0 | rdU1Match1 | rdU1Count | rdU1Role
  | rdU2Ctrl | rdU2Prescale | rdU2Match0 | rdU2Match1 | rdU2Count | rdU2Role
  | rdU3Ctrl | rdU3Prescale | rdU3Match0 | rdU3Match1 | rdU3Count | rdU3Role
  | rdU4Ctrl | rdU4Prescale | rdU4Match0 | rdU4Match1 | rdU4Count | rdU4Role
  | rdBuf _ | rdReserved _ => exact .keeps (.of_next (.answer s _) h)
  | wrU1Match0 _ | wrU1Match1 _ | wrU1Role _ | wrU2Match1 _ | wrU2Role _ | wrU4Role _
  | wrBuf _ _ | wrReserved _ _ | evtReserved _ | opReserved _ => exact .keeps (.of_next (.quiet s) h)
  | wrU1Ctrl _ | wrU2Ctrl _ | wrU4Ctrl _ =>
    exact .keeps (.of_next ((KeepsGuarded.quiet s).trans (.writeCtrl _ _ _)) h)
  | wrU1Prescale _ | wrU2Prescale _ | wrU3Prescale _ | wrU4Prescale _ =>
    exact .keeps (.of_writePrescale h)
  | wrU2Match0 _ | wrU3Match0 _ | wrU4Match0 _ => exact .keeps (.of_writeMatch0 h)
  | wrU3Ctrl _ => exact .keeps (.of_execWrU3Ctrl h)
  | wrU3Match1 _ => exact .keeps (.of_execWrU3Match1 h)
  | wrU4Match1 w =>
    exact .keeps (.of_next ((KeepsGuarded.quiet s).trans (.setU4Match1 _ w)) h)
  | evtClk => exact .keeps (.of_execEvtClk h)
  | wrTickCnt w => obtain rfl := Host.Outcome.next.inj h; exact .clearTickCnt w
  | wrSlowPoll w => obtain rfl := Host.Outcome.next.inj h; exact .reloadSlowPoll w
  | wrPipeCtrl _ => exact execWrPipeCtrl_effect h
  | wrPipeCmd w =>
    rw [show exec (.wrPipeCmd w) s = .next (pipeCmdState w s) from execWrPipeCmd_eq w s] at h
    obtain rfl := Host.Outcome.next.inj h
    exact .command w
  | wrU3Role _ => exact execWrU3Role_effect h
  | evtReset => exact .reset h
  | evtTick => obtain rfl := Host.Outcome.next.inj h; exact .tick
  | evtAdcDone _ => exact execEvtAdcDone_effect h

/-! ## The invariants of R45 under each shared operation -/

/-- An index that goes up only below `n - 1` stays below `n`. -/
theorem toNat_add_one_lt {x : BitVec 8} {n : Nat} (h : x.toNat < n - 1) : (x + 1).toNat < n := by
  rw [BitVec.toNat_add]
  have hmod := Nat.mod_le (x.toNat + (1 : BitVec 8).toNat) (2 ^ 8)
  have hone : (1 : BitVec 8).toNat = 1 := rfl
  omega

theorem word_zero_le (v : Word) : 0 ≤ v := BitVec.le_def.mpr (Nat.zero_le _)

/-- With a legal `N` there is a buffer 0. -/
theorem bufCount_pos_of_wf {p : Params} (h : p.wf) : 0 < p.bufCount := by
  obtain ⟨⟨htwo, -⟩, -⟩ := h
  omega

theorem Inv.quiet {s : State} (h : Inv s) : Inv s.quiet := (KeepsGuarded.quiet s).inv h

/-- The store goes into buffer `put_index`, which is one of the `N` (`42_audio_pipeline` R162). -/
theorem Inv.storeSample {s : State} (h : Inv s) (v : Byte) : Inv (storeSample v s) :=
  { h with
    poolWf := memory_write_wf _ _ _ h.poolWf
    poolInWindow := fun c hc => by
      rcases memory_mem_write _ _ _ _ hc with rfl | hc
      · exact windowAddr_bounds _ _ _ h.putLt s.fillOffset.isLt
      · exact h.poolInWindow c hc }

theorem Inv.countCompletion {s : State} (h : Inv s) : Inv (countCompletion s) := by
  unfold Machine.countCompletion
  split
  · rename_i hroom
    exact { h with readyLt := toNat_add_one_lt hroom }
  · exact { h with }

theorem Inv.advancePut {s : State} (h : Inv s) : Inv (advancePut s) :=
  { h with
    putLt := by
      rw [advancePut_putIndex, advancePut_cfg]
      split
      · rename_i hroom
        exact toNat_add_one_lt hroom
      · exact bufCount_pos_of_wf h.cfgWf }

theorem Inv.completeBuffer {s : State} (h : Inv s) : Inv (completeBuffer s) :=
  have hcleared : Inv { s with fillOffset := 0, peak := 0 } := { h with }
  ((KeepsGuarded.edgeSet _).inv hcleared).countCompletion.advancePut

theorem Inv.advanceFill {s : State} (h : Inv s) : Inv (advanceFill s) := by
  unfold Machine.advanceFill
  split
  · exact h.completeBuffer
  · exact { h with }

theorem Inv.produce {s : State} (h : Inv s) (data : Word) : Inv (produce data s) :=
  ((KeepsGuarded.updatePeak _ _).inv (h.storeSample _)).advanceFill

theorem Inv.drain {s : State} (h : Inv s) : Inv (drain s) :=
  { h with
    readyLt := by
      rw [drain_readyCount, drain_cfg, decFloor0_toNat]
      exact lt_of_le_of_lt (Nat.sub_le _ _) h.readyLt }

theorem Inv.sessionReset {s : State} (h : Inv s) : Inv (sessionReset s) := by
  cases hsrc : s.srcOn with
  | true => rwa [sessionReset_source_on s hsrc]
  | false =>
    rw [sessionReset_source_off s hsrc]
    have hpos := bufCount_pos_of_wf h.cfgWf
    exact { h with putLt := hpos, readyLt := hpos }

theorem Inv.pipeCmdState {s : State} (h : Inv s) (w : Word) : Inv (pipeCmdState w s) := by
  unfold Machine.pipeCmdState
  extract_lets s1 s2
  have hdrain : Inv s1 := by
    unfold s1
    split
    · exact h.quiet.drain
    · exact h.quiet
  have hedge : Inv s2 := by
    unfold s2
    split
    · exact (KeepsGuarded.edgeClr _).inv hdrain
    · exact hdrain
  split
  · exact hedge.sessionReset
  · exact hedge

/-- The invariants ask nothing of the state after reset but legal parameters. -/
theorem inv_reset_withCfg (c : Params) (hc : c.wf) : Inv { State.reset with cfg := c } where
  cfgWf := hc
  tickLe := word_zero_le _
  slowLe := word_zero_le _
  putLt := bufCount_pos_of_wf hc
  readyLt := bufCount_pos_of_wf hc
  oneSource := fun ⟨hcap, _⟩ => Bool.false_ne_true hcap
  toneNoSource := fun ⟨htone, _⟩ => Bool.false_ne_true htone
  poolWf := memory_wf_nil
  poolInWindow := fun _ hmem => absurd hmem List.not_mem_nil

theorem Inv.execEvtReset {s t : State} (h : Inv s) (ht : execEvtReset s = .next t) : Inv t := by
  have hkeeps : KeepsGuarded { State.reset with cfg := s.cfg } t := by
    obtain rfl := Host.Outcome.next.inj ht
    constructor <;> rfl
  exact hkeeps.inv (inv_reset_withCfg s.cfg h.cfgWf)

theorem Inv.tick {s : State} (h : Inv s) : Inv { s.quiet with
    tickCnt := satInc s.cfg.tickMax s.tickCnt, slowPoll := decFloor0 s.slowPoll } :=
  { h with
    tickLe := satInc_le _ _ h.tickLe
    slowLe := BitVec.le_def.mpr ((decFloor0_le _).trans (BitVec.le_def.mp h.slowLe)) }

/-- Every completed operation keeps the invariants. -/
theorem exec_keeps_inv {i : Instr} {s t : State} (hs : Inv s) (h : exec i s = .next t) : Inv t := by
  cases exec_effect h with
  | keeps hk => exact hk.inv hs
  | clearTickCnt w => exact { hs with tickLe := word_zero_le _ }
  | reloadSlowPoll w => exact { hs with slowLe := BitVec.le_refl _ }
  | selectSource w hboth htone => exact { hs with oneSource := hboth, toneNoSource := htone }
  | command w => exact hs.pipeCmdState w
  | changeRole w htone => exact { hs with toneNoSource := htone }
  | reset ht => exact hs.execEvtReset ht
  | tick => exact hs.tick
  | convert data _ => exact hs.quiet.produce data

/-- Settles O49: a step is one operation, which keeps the invariants whatever it is. -/
theorem stepKeepsInvariants : Obligations.StepKeepsInvariants := by
  unfold Obligations.StepKeepsInvariants
  intro s t hs h
  cases htrace : s.trace with
  | nil =>
    rw [step_nil s htrace] at h
    cases h
  | cons w rest =>
    rw [step_cons s w rest htrace] at h
    exact exec_keeps_inv ((KeepsGuarded.withTrace s rest).inv hs) h

/-! ## The diagnostic counters -/

/-- Neither diagnostic counter is lower in `t` than in `s`. -/
def CountersLe (s t : State) : Prop :=
  s.overrunCount.toNat ≤ t.overrunCount.toNat ∧ s.missedCount.toNat ≤ t.missedCount.toNat

theorem CountersLe.trans {s t u : State} (h : CountersLe s t) (h' : CountersLe t u) :
    CountersLe s u := ⟨h.1.trans h'.1, h.2.trans h'.2⟩

theorem KeepsGuarded.countersLe {s t : State} (h : KeepsGuarded s t) : CountersLe s t :=
  ⟨by rw [h.overrunCount], h.missedCount⟩

/-- At the ceiling of `ready_count` an overrun is counted, else neither counter moves (R167). -/
theorem countCompletion_countersLe (s : State) : CountersLe s (countCompletion s) := by
  unfold countCompletion
  split
  · exact ⟨le_rfl, le_rfl⟩
  · exact ⟨le_satInc _ _, le_rfl⟩

theorem completeBuffer_countersLe (s : State) : CountersLe s (completeBuffer s) :=
  have hedge := (KeepsGuarded.edgeSet { s with fillOffset := 0, peak := 0 }).countersLe
  CountersLe.trans hedge (countCompletion_countersLe _)

theorem advanceFill_countersLe (s : State) : CountersLe s (advanceFill s) := by
  unfold advanceFill
  split
  · exact completeBuffer_countersLe s
  · exact ⟨le_rfl, le_rfl⟩

theorem produce_countersLe (data : Word) (s : State) : CountersLe s (produce data s) :=
  have hstore : CountersLe s (storeSample (sampleOf s.cfg.adcW data) s) := ⟨le_rfl, le_rfl⟩
  (hstore.trans (KeepsGuarded.updatePeak _ _).countersLe).trans (advanceFill_countersLe _)

/-- With a source selected no command touches the counters: `SESSION_RESET` is ignored (R173). -/
theorem pipeCmdState_countersLe (w : Word) (s : State) (hsrc : s.srcOn = true) :
    CountersLe s (pipeCmdState w s) := by
  unfold pipeCmdState
  extract_lets s1 s2
  have hdrain : CountersLe s s1 ∧ s1.srcOn = true := by
    unfold s1
    split <;> exact ⟨⟨le_rfl, le_rfl⟩, hsrc⟩
  obtain ⟨hle, hsrc2⟩ : CountersLe s s2 ∧ s2.srcOn = true := by
    unfold s2
    split <;> exact hdrain
  rwa [sessionReset_source_on s2 hsrc2, ite_self]

/-- Settles O50: the producer and the Frame Pacing Edge only count up, and no other operation but `RESET`
and an obeyed `SESSION_RESET` writes the counters. -/
theorem diagnosticCountersMonotone : Obligations.DiagnosticCountersMonotone := by
  unfold Obligations.DiagnosticCountersMonotone
  intro i s t h hreset hsrc
  have hsrcOn : s.srcOn = true := Bool.or_eq_true_iff.mpr hsrc
  cases exec_effect h with
  | keeps hk => exact hk.countersLe
  | command w => exact pipeCmdState_countersLe w s hsrcOn
  | reset _ => exact absurd rfl hreset
  | convert data _ => exact produce_countersLe data s.quiet
  | clearTickCnt _ | reloadSlowPoll _ | selectSource _ _ _ | changeRole _ _ | tick =>
    exact ⟨le_rfl, le_rfl⟩

/-! ## The state after reset -/

/-- The open parameters of the block lie in the ranges of `00_scope` R6. -/
theorem config_params_wf : Config.params.wf := by
  have hN := Config.bufCountAbove2.isLt
  have hW := Config.adcWAbove8.isLt
  have hT := Config.tickMaxAbove1.isLt
  have hS := Config.spPeriodAbove1.isLt
  refine ⟨⟨?_, ?_⟩, ⟨?_, ?_⟩, ?_, ?_⟩ <;>
    simp only [Config.params, BitVec.toNat_ofNat] <;> omega

/-- Settles O48: the open parameters of the block are legal, which is all the reset state needs. -/
theorem resetEstablishesInvariants : Obligations.ResetEstablishesInvariants :=
  inv_reset_withCfg Config.params config_params_wf

/-- Settles O47, field by field, unit by unit and output by output. -/
theorem resetState : Obligations.ResetState := by
  unfold Obligations.ResetState
  refine ⟨?registers, fun a => ?pool, fun k => ?unit, ?bits, ?outputs⟩
  case registers => exact ⟨rfl, rfl, rfl, rfl, rfl, rfl, rfl, rfl, rfl, rfl, rfl, rfl⟩
  case pool => exact memory_read_nil a
  case unit => cases k <;> exact ⟨rfl, rfl, rfl⟩
  case bits => exact ⟨rfl, rfl, rfl⟩
  case outputs => exact ⟨clkOutLevel_disarmed _ rfl, rfl, rfl, rfl, rfl⟩

end Sys2Proof.Machine

/-! PROOF. Words and steps (`20_memory` R66, R67, R69): encoding an operation and decoding it gives it back, no
operation sees the schedule behind it, and so the steps of a trace are the operations it presents. -/

namespace Sys2Proof

/-! ## Decoding the word of an operation (`30_encoding` R81 to R84) -/

/-- An address that no `RD` row names is a window word or reserved. -/
theorem decodeRd_of_not_mem {a : Addr} (h : a ∉ readableRegs) :
    decodeRd a = if inWindow a && aligned a then .rdBuf a else .rdReserved a := by
  simp only [readableRegs, List.mem_cons, not_or] at h
  simp only [decodeRd, h, if_false]

/-- An address that no `WR` row names is in the window or reserved. -/
theorem decodeWr_of_not_mem {a : Addr} (wdata : Word) (h : a ∉ writableRegs) :
    decodeWr a wdata = if inWindow a then .wrBuf a wdata else .wrReserved a wdata := by
  simp only [writableRegs, List.mem_cons, not_or] at h
  simp only [decodeWr, h, if_false]

/-- Every register lies below the window (`20_memory` R60). -/
theorem regs_below_window : (readableRegs ++ writableRegs).all (fun a => !inWindow a) = true := by
  decide

theorem not_mem_regs_of_inWindow {a : Addr} (h : inWindow a = true) :
    a ∉ readableRegs ∧ a ∉ writableRegs := by
  have hbelow (hmem : a ∈ readableRegs ++ writableRegs) : False := by
    have hlow := List.all_eq_true.mp regs_below_window a hmem
    rw [h] at hlow
    exact Bool.false_ne_true hlow
  exact ⟨fun hmem => hbelow (List.mem_append_left _ hmem),
    fun hmem => hbelow (List.mem_append_right _ hmem)⟩

theorem decodeRd_window {a : Addr} (h : (inWindow a && aligned a) = true) : decodeRd a = .rdBuf a := by
  obtain ⟨hw, -⟩ := Bool.and_eq_true_iff.mp h
  rw [decodeRd_of_not_mem (not_mem_regs_of_inWindow hw).1, if_pos h]

theorem decodeRd_reserved {a : Addr} (h : (Instr.rdReserved a).wellFormed = true) :
    decodeRd a = .rdReserved a := by
  simp only [Instr.wellFormed, Bool.and_eq_true_iff, Bool.not_eq_true', List.contains_eq_mem,
    decide_eq_false_iff_not] at h
  obtain ⟨hreg, hwin⟩ := h
  rw [decodeRd_of_not_mem hreg, if_neg (Bool.eq_false_iff.mp hwin)]

theorem decodeWr_window {a : Addr} (wdata : Word) (h : inWindow a = true) :
    decodeWr a wdata = .wrBuf a wdata := by
  rw [decodeWr_of_not_mem wdata (not_mem_regs_of_inWindow h).2, if_pos h]

theorem decodeWr_reserved {a : Addr} {wdata : Word} (h : (Instr.wrReserved a wdata).wellFormed = true) :
    decodeWr a wdata = .wrReserved a wdata := by
  simp only [Instr.wellFormed, Bool.and_eq_true_iff, Bool.not_eq_true', List.contains_eq_mem,
    decide_eq_false_iff_not] at h
  obtain ⟨hreg, hwin⟩ := h
  rw [decodeWr_of_not_mem wdata hreg, if_neg (Bool.eq_false_iff.mp hwin)]

/-- The events are numbered 0 to 3 (R86); every number above is reserved (R87). -/
theorem decodeEvt_reserved {evt : BitVec 16} (data : Word) (h : 4 ≤ evt.toNat) :
    decodeEvt evt data = .evtReserved evt := by
  have hne (n : BitVec 16) (hn : n.toNat < 4) : evt ≠ n := by
    rintro rfl
    omega
  rw [decodeEvt, if_neg (hne _ (by decide)), if_neg (hne _ (by decide)), if_neg (hne _ (by decide)),
    if_neg (hne _ (by decide))]

/-- Decoding the word of a well-formed operation gives it back: a named row has its own address, and the
check on an operand keeps it out of every row tried before. -/
theorem decode_encode {i : Instr} (h : i.wellFormed = true) : decode (encode i) = i := by
  cases i with
  | rdBuf a => exact (decode_mkOpWord _ _ _).trans (decodeRd_window h)
  | rdReserved a => exact (decode_mkOpWord _ _ _).trans (decodeRd_reserved h)
  | wrBuf a wdata => exact (decode_mkOpWord _ _ _).trans (decodeWr_window wdata h)
  | wrReserved a wdata => exact (decode_mkOpWord _ _ _).trans (decodeWr_reserved h)
  | evtReserved evt => exact (decode_mkOpWord _ _ _).trans (decodeEvt_reserved _ (of_decide_eq_true h))
  | _ => exact (decode_mkOpWord _ _ _).trans rfl

end Sys2Proof

namespace Sys2Proof.Machine

open Sys2Proof

/-! ## No operation sees the schedule (`10_state` R21, R42; log 1) -/

theorem withTrace_ite (l : List OpWord) (c : Prop) [Decidable c] (s t : State) :
    (if c then s else t).withTrace l = if c then s.withTrace l else t.withTrace l :=
  apply_ite (State.withTrace · l) c s t

theorem withTraceOutcome_ite (l : List OpWord) (c : Prop) [Decidable c]
    (o p : Host.Outcome State Fault Refusal) :
    withTraceOutcome l (if c then o else p) =
      if c then withTraceOutcome l o else withTraceOutcome l p :=
  apply_ite (withTraceOutcome l) c o p

/-! ### The timer units -/

theorem paceStep_withTrace (s : State) (l : List OpWord) :
    paceStep (s.withTrace l) = (paceStep s).withTrace l := by
  rw [paceStep_eq, paceStep_eq]
  rfl

theorem samplePeriodEdge_withTrace (s : State) (l : List OpWord) :
    samplePeriodEdge (s.withTrace l) = (samplePeriodEdge s).withTrace l := by
  have htrigger : (if s.capEn = true then (s.withTrace l).emitTrigger else s.withTrace l) =
      (if s.capEn = true then s.emitTrigger else s).withTrace l := by
    rw [withTrace_ite]
    rfl
  rw [samplePeriodEdge_eq s, withTrace_ite, withTrace_ite, ← paceStep_withTrace, ← htrigger]
  exact samplePeriodEdge_eq _

theorem clockUnit_withTrace (k : UnitId) (s : State) (l : List OpWord) :
    clockUnit k (s.withTrace l) = (clockUnit k s).withTrace l := by
  cases k with
  | u1 => rw [clockUnit_u1, clockUnit_u1]; rfl
  | u2 => rw [clockUnit_u2, clockUnit_u2]; rfl
  | u3 =>
    rw [clockUnit_u3 s, withTrace_ite, ← samplePeriodEdge_withTrace]
    exact clockUnit_u3 _
  | u4 => rw [clockUnit_u4, clockUnit_u4]; rfl

theorem writeCtrl_withTrace (k : UnitId) (w : Word) (s : State) (l : List OpWord) :
    writeCtrl k w (s.withTrace l) = (writeCtrl k w s).withTrace l := by
  rw [writeCtrl_eq, writeCtrl_eq]
  cases k <;> rfl

theorem unit_withTrace (s : State) (k : UnitId) (l : List OpWord) :
    (s.withTrace l).unit k = s.unit k := by
  cases k <;> rfl

theorem writePrescale_withTrace (k : UnitId) (w : Word) (s : State) (l : List OpWord) :
    writePrescale k w (s.withTrace l) = withTraceOutcome l (writePrescale k w s) := by
  unfold writePrescale
  rw [withTraceOutcome_ite, unit_withTrace]
  cases k <;> rfl

theorem writeMatch0_withTrace (k : UnitId) (w : Word) (s : State) (l : List OpWord) :
    writeMatch0 k w (s.withTrace l) = withTraceOutcome l (writeMatch0 k w s) := by
  unfold writeMatch0
  rw [withTraceOutcome_ite, unit_withTrace]
  cases k <;> rfl

theorem execEvtClk_withTrace (s : State) (l : List OpWord) :
    execEvtClk (s.withTrace l) = withTraceOutcome l (execEvtClk s) := by
  have hquiet : (s.withTrace l).quiet = s.quiet.withTrace l := rfl
  simp only [execEvtClk, withTraceOutcome, hquiet, clockUnit_withTrace]

theorem execWrU3Ctrl_withTrace (w : Word) (s : State) (l : List OpWord) :
    execWrU3Ctrl w (s.withTrace l) = withTraceOutcome l (execWrU3Ctrl w s) := by
  unfold execWrU3Ctrl
  rw [withTraceOutcome_ite, withTraceOutcome, withTraceOutcome, ← writeCtrl_withTrace]
  rfl

theorem execWrU3Match1_withTrace (w : Word) (s : State) (l : List OpWord) :
    execWrU3Match1 w (s.withTrace l) = withTraceOutcome l (execWrU3Match1 w s) := by
  unfold execWrU3Match1
  rw [withTraceOutcome_ite]
  rfl

theorem execWrU3Role_withTrace (w : Word) (s : State) (l : List OpWord) :
    execWrU3Role w (s.withTrace l) = withTraceOutcome l (execWrU3Role w s) := by
  unfold execWrU3Role
  rw [withTraceOutcome_ite, withTraceOutcome_ite, withTraceOutcome_ite]
  rfl

/-! ### The audio pipeline -/

theorem produce_withTrace (data : Word) (s : State) (l : List OpWord) :
    produce data (s.withTrace l) = (produce data s).withTrace l := by
  rw [produce_eq, produce_eq, withTrace_ite, completeBuffer_eq, completeBuffer_eq]
  rfl

theorem execEvtAdcDone_withTrace (data : Word) (s : State) (l : List OpWord) :
    execEvtAdcDone data (s.withTrace l) = withTraceOutcome l (execEvtAdcDone data s) := by
  simp only [execEvtAdcDone, withTraceOutcome, withTrace_ite, ← produce_withTrace]
  rfl

theorem execWrPipeCtrl_withTrace (w : Word) (s : State) (l : List OpWord) :
    execWrPipeCtrl w (s.withTrace l) = withTraceOutcome l (execWrPipeCtrl w s) := by
  unfold execWrPipeCtrl
  rw [withTraceOutcome_ite, withTraceOutcome_ite]
  rfl

theorem sessionReset_withTrace (s : State) (l : List OpWord) :
    sessionReset (s.withTrace l) = (sessionReset s).withTrace l := by
  unfold sessionReset
  rw [withTrace_ite]
  rfl

theorem pipeCmdState_withTrace (w : Word) (s : State) (l : List OpWord) :
    pipeCmdState w (s.withTrace l) = (pipeCmdState w s).withTrace l := by
  have hquiet : (s.withTrace l).quiet = s.quiet.withTrace l := rfl
  have hdrain (t : State) : drain (t.withTrace l) = (drain t).withTrace l := rfl
  have hedge (t : State) : edgeClr (t.withTrace l) = (edgeClr t).withTrace l := rfl
  simp only [pipeCmdState, hquiet, hdrain, ← withTrace_ite, hedge, sessionReset_withTrace]

/-! ### Every operation -/

/-- An operation performed under another schedule does the same and leaves that schedule behind. -/
theorem exec_withTrace (i : Instr) (s : State) (l : List OpWord) :
    exec i (s.withTrace l) = withTraceOutcome l (exec i s) := by
  cases i with
  | wrU1Ctrl w | wrU2Ctrl w | wrU4Ctrl w =>
    exact congrArg Host.Outcome.next (writeCtrl_withTrace _ w s.quiet l)
  | wrU3Ctrl w => exact execWrU3Ctrl_withTrace w s l
  | wrU1Prescale w | wrU2Prescale w | wrU3Prescale w | wrU4Prescale w =>
    exact writePrescale_withTrace _ w s l
  | wrU2Match0 w | wrU3Match0 w | wrU4Match0 w => exact writeMatch0_withTrace _ w s l
  | wrU3Match1 w => exact execWrU3Match1_withTrace w s l
  | wrU3Role w => exact execWrU3Role_withTrace w s l
  | wrPipeCtrl w => exact execWrPipeCtrl_withTrace w s l
  | wrPipeCmd w => exact congrArg Host.Outcome.next (pipeCmdState_withTrace w s l)
  | evtClk => exact execEvtClk_withTrace s l
  | evtAdcDone data => exact execEvtAdcDone_withTrace data s l
  -- The reads and the meanings without a test: one update of the state, which the schedule is no part of.
  | _ => rfl

/-! ## Steps of a trace of words -/

/-- Settles O1: the law of a step, at the operation the word decodes to. -/
theorem stepPerformsDecodedOperation : Obligations.StepPerformsDecodedOperation := by
  unfold Obligations.StepPerformsDecodedOperation
  rintro s w rest i htrace rfl
  exact step_cons s w rest htrace

/-- Presented next, the word of a well-formed operation makes the step that operation. -/
theorem step_encode {i : Instr} (h : i.wellFormed = true) (s : State) (rest : List OpWord) :
    step (s.withTrace (encode i :: rest)) = withTraceOutcome rest (exec i s) := by
  rw [step_cons _ (encode i) rest rfl, decode_encode h]
  exact exec_withTrace i s rest

/-- Settles O3, by induction on the list: the words still presented are a schedule that the operation just
performed does not see. -/
theorem traceOfWordsRunsOperations : Obligations.TraceOfWordsRunsOperations := by
  unfold Obligations.TraceOfWordsRunsOperations
  intro is rest s hwf
  change Host.Core.run core is.length (s.withTrace (is.map encode ++ rest)) =
    runOps is (s.withTrace rest)
  induction is generalizing s with
  | nil => rfl
  | cons i is ih =>
    obtain ⟨hi, his⟩ := List.forall_mem_cons.mp hwf
    have hstep : core.step (s.withTrace ((i :: is).map encode ++ rest)) =
        withTraceOutcome (is.map encode ++ rest) (exec i s) := step_encode hi s _
    simp only [List.length_cons, Host.Core.run, runOps, exec_withTrace]
    rw [hstep]
    cases exec i s with
    | next t => exact ih t his
    | fault f => rfl
    | refused r => rfl

/-! ## Reads -/

/-- A read completes and only returns a value (`30_encoding` R81). -/
theorem exec_read {i : Instr} (h : i.opClass = .rd) (s : State) : ∃ v, exec i s = .next (s.answer v) := by
  cases i with
  | rdTickCnt | rdSlowPoll | rdPipeCtrl | rdPipeCmd | rdPipeStat | rdPeak | rdOverrun | rdMissed | rdPbDiv
  | rdU1Ctrl | rdU1Prescale | rdU1Match0 | rdU1Match1 | rdU1Count | rdU1Role
  | rdU2Ctrl | rdU2Prescale | rdU2Match0 | rdU2Match1 | rdU2Count | rdU2Role
  | rdU3Ctrl | rdU3Prescale | rdU3Match0 | rdU3Match1 | rdU3Count | rdU3Role
  | rdU4Ctrl | rdU4Prescale | rdU4Match0 | rdU4Match1 | rdU4Count | rdU4Role
  | rdBuf _ | rdReserved _ => exact ⟨_, rfl⟩
  | _ => cases h

/-- Settles O51: the answer of a read is the state with the value returned. -/
theorem readsHaveNoSideEffect : Obligations.ReadsHaveNoSideEffect := by
  unfold Obligations.ReadsHaveNoSideEffect
  intro i s h
  exact exec_read h s

end Sys2Proof.Machine

/-! PROOF. The encoding (`30_encoding` R80 to R90): every word decodes to a well-formed operation and only the
ignored bits are lost, the decoder is the opcode table, and the words that stand for no effect. -/

namespace Sys2Proof

/-! ## The decoder by class (`30_encoding` R80, R84) -/

@[simp] theorem decode_rdWord (a : Addr) (d : Word) : decode (mkOpWord 0b00#2 a d) = decodeRd a :=
  decode_mkOpWord _ _ _

@[simp] theorem decode_wrWord (a : Addr) (d : Word) : decode (mkOpWord 0b01#2 a d) = decodeWr a d :=
  decode_mkOpWord _ _ _

@[simp] theorem decode_evtWord (e : BitVec 16) (d : Word) : decode (mkOpWord 0b10#2 e d) = decodeEvt e d :=
  decode_mkOpWord _ _ _

@[simp] theorem decode_reservedWord (x : BitVec 16) (d : Word) :
    decode (mkOpWord 0b11#2 x d) = .opReserved x :=
  decode_mkOpWord _ _ _

/-- The four classes of R80. -/
theorem cls_cases (c : BitVec 2) : c = 0b00#2 ∨ c = 0b01#2 ∨ c = 0b10#2 ∨ c = 0b11#2 := by
  revert c
  decide

/-- A claim about every word is one claim for each class of R80, about its `sel` and `data`. -/
theorem forall_opWord {P : OpWord → Prop} (hrd : ∀ a d, P (mkOpWord 0b00#2 a d))
    (hwr : ∀ a d, P (mkOpWord 0b01#2 a d)) (hevt : ∀ e d, P (mkOpWord 0b10#2 e d))
    (hres : ∀ x d, P (mkOpWord 0b11#2 x d)) (w : OpWord) : P w := by
  rw [← mkOpWord_fields w]
  obtain h | h | h | h := cls_cases w.cls <;> rw [h]
  · exact hrd _ _
  · exact hwr _ _
  · exact hevt _ _
  · exact hres _ _

/-! ## Well-formedness and the encoder after the decoder (`30_encoding` R80 to R84) -/

/-- The event numbers that have a row of their own (R86). -/
def namedEvents : List (BitVec 16) := [0x0000#16, 0x0001#16, 0x0002#16, 0x0003#16]

/-- The events without a row of their own are those from 4 on (R87). -/
theorem four_le_of_not_mem_namedEvents {e : BitVec 16} (h : e ∉ namedEvents) : 4 ≤ e.toNat := by
  simp only [namedEvents, List.mem_cons, List.not_mem_nil, or_false, not_or, BitVec.toNat_eq,
    BitVec.toNat_ofNat] at h
  omega

/-- The rows of the readable registers (R90): each address decodes to an operation whose
word has that address. -/
theorem decodeRd_named : ∀ a ∈ readableRegs,
    (decodeRd a).wellFormed = true ∧ encode (decodeRd a) = mkOpWord 0b00#2 a 0#32 := by
  simp only [readableRegs, List.forall_mem_cons]
  repeat refine ⟨⟨rfl, rfl⟩, ?_⟩
  exact List.forall_mem_nil _

/-- The rows of the writable registers (R90), for any write data. -/
theorem decodeWr_named (d : Word) : ∀ a ∈ writableRegs,
    (decodeWr a d).wellFormed = true ∧ encode (decodeWr a d) = mkOpWord 0b01#2 a d := by
  simp only [writableRegs, List.forall_mem_cons]
  repeat refine ⟨⟨rfl, rfl⟩, ?_⟩
  exact List.forall_mem_nil _

/-- A read word decodes to a well-formed operation that keeps the address and nothing else (R81). -/
theorem decodeRd_spec (a : Addr) :
    (decodeRd a).wellFormed = true ∧ encode (decodeRd a) = mkOpWord 0b00#2 a 0#32 := by
  by_cases hreg : a ∈ readableRegs
  · exact decodeRd_named a hreg
  · rw [decodeRd_of_not_mem hreg]
    split
    next hwin => exact ⟨hwin, rfl⟩
    next hwin => exact ⟨by simp [Instr.wellFormed, hreg, hwin], rfl⟩

/-- A write word decodes to a well-formed operation that keeps the address and the data (R82). -/
theorem decodeWr_spec (a : Addr) (d : Word) :
    (decodeWr a d).wellFormed = true ∧ encode (decodeWr a d) = mkOpWord 0b01#2 a d := by
  by_cases hreg : a ∈ writableRegs
  · exact decodeWr_named d a hreg
  · rw [decodeWr_of_not_mem d hreg]
    split
    next hwin => exact ⟨hwin, rfl⟩
    next hwin => exact ⟨by simp [Instr.wellFormed, hreg, hwin], rfl⟩

/-- Only `ADC_DONE` keeps its data (R83). -/
theorem decodeEvt_named (d : Word) : ∀ e ∈ namedEvents,
    (decodeEvt e d).wellFormed = true ∧
      ((e = 0x0003#16 ∨ d = 0#32) → encode (decodeEvt e d) = mkOpWord 0b10#2 e d) := by
  simp only [namedEvents, List.forall_mem_cons]
  refine ⟨⟨rfl, ?_⟩, ⟨rfl, ?_⟩, ⟨rfl, ?_⟩, ⟨rfl, fun _ => rfl⟩, List.forall_mem_nil _⟩ <;>
  · rintro (h | rfl)
    · cases h
    · rfl

/-- An event word decodes to a well-formed operation that keeps the number, and the data
of `ADC_DONE` (R83). -/
theorem decodeEvt_spec (e : BitVec 16) (d : Word) :
    (decodeEvt e d).wellFormed = true ∧
      ((e = 0x0003#16 ∨ d = 0#32) → encode (decodeEvt e d) = mkOpWord 0b10#2 e d) := by
  by_cases he : e ∈ namedEvents
  · exact decodeEvt_named d e he
  · have h4 := four_le_of_not_mem_namedEvents he
    rw [decodeEvt_reserved d h4]
    refine ⟨decide_eq_true h4, ?_⟩
    rintro (rfl | rfl)
    · exact absurd h4 (by decide)
    · rfl

/-- Settles O5: the round trip of `decode_encode`, operation by operation. -/
theorem decodeEncodeRoundTrip : Obligations.DecodeEncodeRoundTrip := by
  unfold Obligations.DecodeEncodeRoundTrip
  intro i h
  exact decode_encode h

/-- Settles O6, class by class: what a class keeps of the word is what the operation carries. -/
theorem encodeDecodeRoundTrip : Obligations.EncodeDecodeRoundTrip := by
  unfold Obligations.EncodeDecodeRoundTrip
  refine forall_opWord ?rd ?wr ?evt ?reserved
  case rd =>
    intro a d
    obtain ⟨hwf, henc⟩ := decodeRd_spec a
    refine ⟨by rwa [decode_rdWord], fun h => ?_⟩
    obtain rfl : d = 0#32 := by simpa [OpWord.wellFormed] using h
    rw [decode_rdWord, henc]
  case wr =>
    intro a d
    obtain ⟨hwf, henc⟩ := decodeWr_spec a d
    exact ⟨by rwa [decode_wrWord], fun _ => by rw [decode_wrWord, henc]⟩
  case evt =>
    intro e d
    obtain ⟨hwf, henc⟩ := decodeEvt_spec e d
    refine ⟨by rwa [decode_evtWord], fun h => ?_⟩
    rw [decode_evtWord, henc (by simpa [OpWord.wellFormed] using h)]
  case reserved =>
    intro x d
    rw [decode_reservedWord]
    refine ⟨rfl, fun h => ?_⟩
    obtain rfl : d = 0#32 := by simpa [OpWord.wellFormed] using h
    rfl

/-! ## The opcode table (`30_encoding` R84, R90) -/

/-- The mnemonic of the first row that a word selects. -/
def firstMnemonic (rows : List OpRow) (w : OpWord) : Option String :=
  (rows.find? (·.selects w)).map (·.mnemonic)

@[simp] theorem firstMnemonic_nil (w : OpWord) : firstMnemonic [] w = none := rfl

theorem firstMnemonic_cons (r : OpRow) (rows : List OpRow) (w : OpWord) :
    firstMnemonic (r :: rows) w = if r.selects w then some r.mnemonic else firstMnemonic rows w := by
  cases h : r.selects w <;> simp [firstMnemonic, h]

theorem firstMnemonic_append (rows rows' : List OpRow) (w : OpWord) :
    firstMnemonic (rows ++ rows') w = (firstMnemonic rows w).or (firstMnemonic rows' w) := by
  simp only [firstMnemonic, List.find?_append, Option.map_or]

/-- The table is tried in the order of its three parts. -/
theorem firstRow_mnemonic (w : OpWord) : (firstRow w).map (·.mnemonic) =
    ((firstMnemonic opRowsRd w).or (firstMnemonic opRowsWr w)).or (firstMnemonic opRowsEvt w) :=
  (firstMnemonic_append _ _ w).trans (by rw [firstMnemonic_append])

/-- The row whose mask covers `cls` and `sel`, for the operation of the one `sel` it names. -/
def namedRow (c : BitVec 2) (f : BitVec 16 → Instr) (a : BitVec 16) : OpRow :=
  ⟨(f a).mnemonic, mkOpWord c a 0#32, mkOpWord 0b11#2 0xFFFF#16 0#32⟩

/-- A row whose mask covers `cls` and the bits `m` of `sel`. -/
def maskedRow (name : String) (c : BitVec 2) (m p : BitVec 16) : OpRow :=
  ⟨name, mkOpWord c p 0#32, mkOpWord 0b11#2 m 0#32⟩

theorem maskedRow_selects (name : String) (c c' : BitVec 2) (m p a : BitVec 16) (d : Word) :
    (maskedRow name c m p).selects (mkOpWord c' a d) = decide (c' = c ∧ a &&& m = p) := by
  have hc : c' &&& 0b11#2 = c' := BitVec.and_allOnes
  simp [maskedRow, OpRow.selects, mkOpWord_and, mkOpWord_inj, hc]

theorem namedRow_selects (c : BitVec 2) (f : BitVec 16 → Instr) (a a' : BitVec 16) (d : Word) :
    (namedRow c f a).selects (mkOpWord c a' d) = decide (a' = a) := by
  have ha : a' &&& 0xFFFF#16 = a' := BitVec.and_allOnes
  exact (maskedRow_selects (f a).mnemonic c c 0xFFFF#16 a a' d).trans (by simp [ha])

/-- A word whose `sel` has a row of its own selects it, and any other goes on to the rows behind. -/
theorem firstMnemonic_named (c : BitVec 2) (f : BitVec 16 → Instr) (names : List (BitVec 16))
    (rest : List OpRow) (a : BitVec 16) (d : Word) :
    firstMnemonic (names.map (namedRow c f) ++ rest) (mkOpWord c a d) =
      if a ∈ names then some (f a).mnemonic else firstMnemonic rest (mkOpWord c a d) := by
  induction names with
  | nil => simp
  | cons n names ih =>
    rw [List.map_cons, List.cons_append, firstMnemonic_cons, namedRow_selects, ih]
    by_cases h : a = n
    · subst h
      simp [namedRow]
    · simp [h]

/-- No word of another class selects a row of class `c`. -/
theorem firstMnemonic_other_class {rows : List OpRow} {c : BitVec 2}
    (hrows : ∀ r ∈ rows, r.mask.cls = 0b11#2 ∧ r.pattern.cls = c) {w : OpWord} (hw : w.cls ≠ c) :
    firstMnemonic rows w = none := by
  simp only [firstMnemonic, Option.map_eq_none_iff, List.find?_eq_none]
  intro r hr hsel
  obtain ⟨hmask, hpat⟩ := hrows r hr
  have hcls : w.cls &&& r.mask.cls = r.pattern.cls := by
    simpa only [OpWord.cls, BitVec.extractLsb'_and] using congrArg OpWord.cls (of_decide_eq_true hsel)
  rw [hmask, hpat, show w.cls &&& 0b11#2 = w.cls from BitVec.and_allOnes] at hcls
  exact hw hcls

/-- The `RD` rows: one for each readable register, of the operation its address decodes to; then the window,
then all that is left. -/
theorem opRowsRd_eq : opRowsRd = readableRegs.map (namedRow 0b00#2 decodeRd) ++
    [maskedRow "RD.BUF" 0b00#2 0x8003#16 0x8000#16, maskedRow "RD.RESERVED" 0b00#2 0#16 0#16] := by
  rfl

/-- The `WR` rows: one for each writable register, then the window, then all that is left. -/
theorem opRowsWr_eq (d : Word) : opRowsWr = writableRegs.map (namedRow 0b01#2 (decodeWr · d)) ++
    [maskedRow "WR.BUF" 0b01#2 0x8000#16 0x8000#16, maskedRow "WR.RESERVED" 0b01#2 0#16 0#16] := by
  rfl

/-- The `EVT` rows, and behind them the row of the reserved class. -/
theorem opRowsEvt_eq (d : Word) : opRowsEvt = namedEvents.map (namedRow 0b10#2 (decodeEvt · d)) ++
    [maskedRow "EVT.RESERVED" 0b10#2 0#16 0#16, maskedRow "OP.RESERVED" 0b11#2 0#16 0#16] := by
  rfl

/-- The mask of `RD.BUF` picks the aligned addresses of the window (`20_memory` R60, R65). -/
theorem window_aligned_iff (a : Addr) :
    a &&& 0x8003#16 = 0x8000#16 ↔ (inWindow a && aligned a) = true := by
  refine ⟨fun h => ?_, Laws.window_aligned_and a⟩
  have hbit (i : Nat) : (a.getLsbD i && (0x8003#16).getLsbD i) = (0x8000#16).getLsbD i := by
    rw [← BitVec.getLsbD_and, h]
  have hwin : inWindow a = true := by simpa [inWindow] using hbit 15
  have halign : a.extractLsb' 0 2 = 0#2 := by
    refine BitVec.eq_of_getLsbD_eq fun i hi => ?_
    interval_cases i
    · simpa using hbit 0
    · simpa using hbit 1
  simp [hwin, aligned, halign]

theorem firstMnemonic_opRowsRd (a : Addr) (d : Word) :
    firstMnemonic opRowsRd (mkOpWord 0b00#2 a d) = some (decodeRd a).mnemonic := by
  rw [opRowsRd_eq, firstMnemonic_named]
  split
  next => rfl
  next hreg =>
    rw [firstMnemonic_cons, firstMnemonic_cons, maskedRow_selects, maskedRow_selects,
      decodeRd_of_not_mem hreg]
    by_cases hwin : (inWindow a && aligned a) = true <;>
      simp [window_aligned_iff, hwin, maskedRow, Instr.mnemonic]

theorem firstMnemonic_opRowsWr (a : Addr) (d : Word) :
    firstMnemonic opRowsWr (mkOpWord 0b01#2 a d) = some (decodeWr a d).mnemonic := by
  rw [opRowsWr_eq d, firstMnemonic_named]
  split
  next => rfl
  next hreg =>
    rw [firstMnemonic_cons, firstMnemonic_cons, maskedRow_selects, maskedRow_selects,
      decodeWr_of_not_mem d hreg]
    by_cases hwin : inWindow a = true <;>
      simp [← Laws.inWindow_and, hwin, maskedRow, Instr.mnemonic]

theorem firstMnemonic_opRowsEvt (e : BitVec 16) (d : Word) :
    firstMnemonic opRowsEvt (mkOpWord 0b10#2 e d) = some (decodeEvt e d).mnemonic := by
  rw [opRowsEvt_eq d, firstMnemonic_named]
  split
  next => rfl
  next he =>
    rw [firstMnemonic_cons, maskedRow_selects,
      decodeEvt_reserved d (four_le_of_not_mem_namedEvents he)]
    simp [maskedRow, Instr.mnemonic]

theorem firstMnemonic_opRowsRd_other {w : OpWord} (h : w.cls ≠ 0b00#2) :
    firstMnemonic opRowsRd w = none :=
  firstMnemonic_other_class (by decide) h

theorem firstMnemonic_opRowsWr_other {w : OpWord} (h : w.cls ≠ 0b01#2) :
    firstMnemonic opRowsWr w = none :=
  firstMnemonic_other_class (by decide) h

/-- The class `11` has one row, behind the rows of the class `EVT`. -/
theorem firstMnemonic_opReserved (x : BitVec 16) (d : Word) :
    firstMnemonic opRowsEvt (mkOpWord 0b11#2 x d) = some (Instr.opReserved x).mnemonic := by
  have hevt : firstMnemonic (opRowsEvt.take 5) (mkOpWord 0b11#2 x d) = none :=
    firstMnemonic_other_class (c := 0b10#2) (by decide) (by simp)
  have hrow : firstMnemonic [maskedRow "OP.RESERVED" 0b11#2 0#16 0#16] (mkOpWord 0b11#2 x d) =
      some "OP.RESERVED" := by
    rw [firstMnemonic_cons, maskedRow_selects]
    simp [maskedRow]
  rw [show opRowsEvt = opRowsEvt.take 5 ++ [maskedRow "OP.RESERVED" 0b11#2 0#16 0#16] from rfl,
    firstMnemonic_append, hevt, hrow]
  rfl

/-- Settles O7: the rows of the classes before a word's own select none of its words, and in its own class
the named rows come first, as in the decoder. -/
theorem decodeFollowsOpcodeTable : Obligations.DecodeFollowsOpcodeTable := by
  unfold Obligations.DecodeFollowsOpcodeTable
  refine forall_opWord ?rd ?wr ?evt ?reserved
  all_goals
    intro a d
    rw [firstRow_mnemonic]
  case rd => rw [firstMnemonic_opRowsRd, decode_rdWord]; rfl
  case wr => rw [firstMnemonic_opRowsRd_other (by simp), firstMnemonic_opRowsWr, decode_wrWord]; rfl
  case evt =>
    rw [firstMnemonic_opRowsRd_other (by simp), firstMnemonic_opRowsWr_other (by simp),
      firstMnemonic_opRowsEvt, decode_evtWord]
    rfl
  case reserved =>
    rw [firstMnemonic_opRowsRd_other (by simp), firstMnemonic_opRowsWr_other (by simp),
      firstMnemonic_opReserved, decode_reservedWord]
    rfl

/-! ## The reserved space (`30_encoding` R87, R88, `20_memory` R60, R64, R65) -/

/-- The window is the upper half of the address space (`20_memory` R60). -/
theorem inWindow_iff (a : Addr) : inWindow a = true ↔ 0x8000 ≤ a.toNat := by
  have h : inWindow a = a.msb := rfl
  rw [h, BitVec.msb_eq_decide, decide_eq_true_iff]

/-- Every register is aligned and below the reserved space (`20_memory` R64, R65). -/
theorem regs_aligned_and_low : (readableRegs ++ writableRegs).all
    (fun a => aligned a && decide (a.toNat < 0x00C0)) = true := by
  decide

/-- A misaligned address and an address from 0x00C0 on name no register. -/
theorem not_mem_regs_of_reserved {a : Addr} (h : aligned a = false ∨ 0x00C0 ≤ a.toNat) :
    a ∉ readableRegs ∧ a ∉ writableRegs := by
  have hnot : a ∉ readableRegs ++ writableRegs := by
    intro hmem
    obtain ⟨halign, hlow⟩ := Bool.and_eq_true_iff.mp (List.all_eq_true.mp regs_aligned_and_low a hmem)
    obtain h | h := h
    · exact Bool.false_ne_true (h.symm.trans halign)
    · exact absurd (of_decide_eq_true hlow) (by omega)
  simpa only [List.mem_append, not_or] using hnot

/-- Settles O45: what keeps a word out of the rows tried before the reserved one. -/
theorem reservedWordsDecodeAsReserved : Obligations.ReservedWordsDecodeAsReserved := by
  unfold Obligations.ReservedWordsDecodeAsReserved
  intro a w
  refine ⟨fun halign => ?_, fun hlo hhi => ?_, fun halign hwin => ?_, fun hwin => ?_, fun h4 => ?_, ?_⟩
  · rw [decode_rdWord, decodeRd_of_not_mem (not_mem_regs_of_reserved (.inl halign)).1]
    simp [halign]
  · obtain ⟨hrd, hwr⟩ := not_mem_regs_of_reserved (.inr hlo)
    have hwin : ¬ inWindow a = true := by rw [inWindow_iff]; omega
    rw [decode_rdWord, decode_wrWord, decodeRd_of_not_mem hrd, decodeWr_of_not_mem w hwr]
    simp [hwin]
  · rw [decode_wrWord, decodeWr_of_not_mem w (not_mem_regs_of_reserved (.inl halign)).2]
    simp [hwin]
  · rw [decode_wrWord, decodeWr_window w hwin]
  · rw [decode_evtWord, decodeEvt_reserved w h4]
  · exact decode_reservedWord a w

/-- Settles O4: the decoder evaluated on each of the nine words. -/
theorem sampleWordsDecode : Obligations.SampleWordsDecode := by
  unfold Obligations.SampleWordsDecode
  decide

end Sys2Proof

namespace Sys2Proof.Machine

open Sys2Proof

/-- Settles O44: the words of the last clause decode to one of the operations before it. -/
theorem reservedEncodingsDoNothing : Obligations.ReservedEncodingsDoNothing := by
  unfold Obligations.ReservedEncodingsDoNothing
  intro s addr w evt opSel
  refine ⟨rfl, rfl, rfl, rfl, rfl, fun c sel hword => ?_⟩
  obtain ⟨rfl, hwin⟩ | ⟨rfl, hevt⟩ | rfl := hword
  · rw [decode_wrWord, decodeWr_window w ((inWindow_iff sel).mpr hwin)]
    rfl
  · rw [decode_evtWord, decodeEvt_reserved w hevt]
    rfl
  · rw [decode_reservedWord]
    rfl

/-! ## The operations of one clock cycle (`30_encoding` R97) -/

theorem decode_accessWord (x : Access) :
    decode (accessWord x) = if x.write then decodeWr x.addr x.wdata else decodeRd x.addr := by
  unfold accessWord
  split
  next => exact decode_wrWord _ _
  next => exact decode_rdWord _ _

/-- Settles O56, port by port. -/
theorem cyclePresentsOperationsInOrder : Obligations.CyclePresentsOperationsInOrder := by
  unfold Obligations.CyclePresentsOperationsInOrder
  rintro ⟨rst, tick, adcDone, access⟩
  cases rst with
  | true => rfl
  | false =>
    simp only [cycleWords, List.map_append, Bool.false_eq_true, if_false]
    refine congrArg₂ (· ++ ·)
      (congrArg₂ (· ++ ·) (congrArg₂ (· ++ ·) ?clk ?tick) ?adcDone) ?access
    case clk => exact congrArg ([·]) (decode_evtWord _ _)
    case tick =>
      cases tick with
      | false => rfl
      | true => exact congrArg ([·]) (decode_evtWord _ _)
    case adcDone =>
      cases adcDone with
      | none => rfl
      | some data => exact congrArg ([·]) (decode_evtWord _ data)
    case access =>
      cases access with
      | none => rfl
      | some x => exact congrArg ([·]) (decode_accessWord x)

end Sys2Proof.Machine

/-! PROOF. The Tick Service (`40_tick_service`): its two counters and the rest of the block run side by side, which is
said once for every operation (`exec_withTicks`); the counters' course (R105) follows from it. -/

namespace Sys2Proof.Machine

open Sys2Proof

/-! ## The Tick Service as a machine of its own (`40_tick_service` R100, R102, R104, R105) -/

/-- The same state with other values of the two counters. -/
def State.withTicks (s : State) (a b : Word) : State := { s with tickCnt := a, slowPoll := b }

/-- The same outcome with its next state changed by `f`. -/
def mapNext (f : State → State) : Host.Outcome State Fault Refusal → Host.Outcome State Fault Refusal
  | .next t => .next (f t)
  | .fault e => .fault e
  | .refused r => .refused r

/-- What an operation makes of `tick_cnt`, from the parameters and its value alone. -/
def tickCntAfter (i : Instr) (c : Params) (v : Word) : Word :=
  match i with
  | .evtTick => satInc c.tickMax v
  | .wrTickCnt _ => 0
  | .evtReset => 0
  | _ => v

/-- What an operation makes of `slow_poll`, from the parameters and its value alone. -/
def slowPollAfter (i : Instr) (c : Params) (v : Word) : Word :=
  match i with
  | .evtTick => decFloor0 v
  | .wrSlowPoll _ => c.spPeriod
  | .evtReset => 0
  | _ => v

@[simp] theorem tickCntAfter_tick (c : Params) (v : Word) :
    tickCntAfter .evtTick c v = satInc c.tickMax v := rfl

@[simp] theorem slowPollAfter_tick (c : Params) (v : Word) : slowPollAfter .evtTick c v = decFloor0 v := rfl

theorem tickCntAfter_other {i : Instr} (c : Params) (v : Word) (hreset : i ≠ .evtReset)
    (htick : i ≠ .evtTick) (hclear : ∀ w, i ≠ .wrTickCnt w) : tickCntAfter i c v = v := by
  cases i with
  | evtReset => exact absurd rfl hreset
  | evtTick => exact absurd rfl htick
  | wrTickCnt w => exact absurd rfl (hclear w)
  | _ => rfl

theorem slowPollAfter_other {i : Instr} (c : Params) (v : Word) (hreset : i ≠ .evtReset)
    (htick : i ≠ .evtTick) (hreload : ∀ w, i ≠ .wrSlowPoll w) : slowPollAfter i c v = v := by
  cases i with
  | evtReset => exact absurd rfl hreset
  | evtTick => exact absurd rfl htick
  | wrSlowPoll w => exact absurd rfl (hreload w)
  | _ => rfl

/-! ### No other operation sees the counters -/

theorem withTicks_ite (a b : Word) (c : Prop) [Decidable c] (s t : State) :
    (if c then s else t).withTicks a b = if c then s.withTicks a b else t.withTicks a b :=
  apply_ite (State.withTicks · a b) c s t

theorem mapNext_ite (f : State → State) (c : Prop) [Decidable c]
    (o p : Host.Outcome State Fault Refusal) :
    mapNext f (if c then o else p) = if c then mapNext f o else mapNext f p :=
  apply_ite (mapNext f) c o p

section
variable (s : State) (a b : Word)

theorem paceStep_withTicks : paceStep (s.withTicks a b) = (paceStep s).withTicks a b := by
  rw [paceStep_eq, paceStep_eq]
  rfl

theorem samplePeriodEdge_withTicks :
    samplePeriodEdge (s.withTicks a b) = (samplePeriodEdge s).withTicks a b := by
  have htrigger : (if s.capEn = true then (s.withTicks a b).emitTrigger else s.withTicks a b) =
      (if s.capEn = true then s.emitTrigger else s).withTicks a b := by
    rw [withTicks_ite]
    rfl
  rw [samplePeriodEdge_eq s, withTicks_ite, withTicks_ite, ← paceStep_withTicks, ← htrigger]
  exact samplePeriodEdge_eq _

theorem clockUnit_withTicks (k : UnitId) :
    clockUnit k (s.withTicks a b) = (clockUnit k s).withTicks a b := by
  cases k with
  | u1 => rw [clockUnit_u1, clockUnit_u1]; rfl
  | u2 => rw [clockUnit_u2, clockUnit_u2]; rfl
  | u3 =>
    rw [clockUnit_u3 s, withTicks_ite, ← samplePeriodEdge_withTicks]
    exact clockUnit_u3 _
  | u4 => rw [clockUnit_u4, clockUnit_u4]; rfl

theorem execEvtClk_withTicks :
    execEvtClk (s.withTicks a b) = mapNext (·.withTicks a b) (execEvtClk s) := by
  have hquiet : (s.withTicks a b).quiet = s.quiet.withTicks a b := rfl
  simp only [execEvtClk, mapNext, hquiet, clockUnit_withTicks]

theorem writeCtrl_withTicks (k : UnitId) (w : Word) :
    writeCtrl k w (s.withTicks a b) = (writeCtrl k w s).withTicks a b := by
  rw [writeCtrl_eq, writeCtrl_eq]
  cases k <;> rfl

theorem writePrescale_withTicks (k : UnitId) (w : Word) :
    writePrescale k w (s.withTicks a b) = mapNext (·.withTicks a b) (writePrescale k w s) := by
  rw [writePrescale, writePrescale, mapNext_ite]
  cases k <;> rfl

theorem writeMatch0_withTicks (k : UnitId) (w : Word) :
    writeMatch0 k w (s.withTicks a b) = mapNext (·.withTicks a b) (writeMatch0 k w s) := by
  rw [writeMatch0, writeMatch0, mapNext_ite]
  cases k <;> rfl

theorem execWrU3Ctrl_withTicks (w : Word) :
    execWrU3Ctrl w (s.withTicks a b) = mapNext (·.withTicks a b) (execWrU3Ctrl w s) := by
  rw [execWrU3Ctrl, execWrU3Ctrl, mapNext_ite, mapNext, mapNext, ← writeCtrl_withTicks]
  rfl

theorem execWrU3Match1_withTicks (w : Word) :
    execWrU3Match1 w (s.withTicks a b) = mapNext (·.withTicks a b) (execWrU3Match1 w s) := by
  rw [execWrU3Match1, execWrU3Match1, mapNext_ite]
  rfl

theorem execWrU3Role_withTicks (w : Word) :
    execWrU3Role w (s.withTicks a b) = mapNext (·.withTicks a b) (execWrU3Role w s) := by
  rw [execWrU3Role, execWrU3Role, mapNext_ite, mapNext_ite, mapNext_ite]
  rfl

theorem produce_withTicks (data : Word) :
    produce data (s.withTicks a b) = (produce data s).withTicks a b := by
  rw [produce_eq, produce_eq, withTicks_ite, completeBuffer_eq, completeBuffer_eq]
  rfl

theorem execEvtAdcDone_withTicks (data : Word) :
    execEvtAdcDone data (s.withTicks a b) = mapNext (·.withTicks a b) (execEvtAdcDone data s) := by
  simp only [execEvtAdcDone, mapNext, withTicks_ite, ← produce_withTicks]
  rfl

theorem execWrPipeCtrl_withTicks (w : Word) :
    execWrPipeCtrl w (s.withTicks a b) = mapNext (·.withTicks a b) (execWrPipeCtrl w s) := by
  rw [execWrPipeCtrl, execWrPipeCtrl, mapNext_ite, mapNext_ite]
  rfl

theorem sessionReset_withTicks :
    sessionReset (s.withTicks a b) = (sessionReset s).withTicks a b := by
  rw [sessionReset, sessionReset, withTicks_ite]
  rfl

theorem pipeCmdState_withTicks (w : Word) :
    pipeCmdState w (s.withTicks a b) = (pipeCmdState w s).withTicks a b := by
  have hquiet : (s.withTicks a b).quiet = s.quiet.withTicks a b := rfl
  have hdrain (t : State) : drain (t.withTicks a b) = (drain t).withTicks a b := rfl
  have hedge (t : State) : edgeClr (t.withTicks a b) = (edgeClr t).withTicks a b := rfl
  simp only [pipeCmdState, hquiet, hdrain, ← withTicks_ite, hedge, sessionReset_withTicks]

/-! ### Every operation -/

/-- With other counter values every operation but the counters' two reads does the same to the rest of the
block, and to each counter what it does to it alone. -/
theorem exec_withTicks {i : Instr} (hcnt : i ≠ .rdTickCnt) (hpoll : i ≠ .rdSlowPoll) :
    exec i (s.withTicks a b) =
      mapNext (·.withTicks (tickCntAfter i s.cfg a) (slowPollAfter i s.cfg b)) (exec i s) := by
  cases i with
  | rdTickCnt => exact absurd rfl hcnt
  | rdSlowPoll => exact absurd rfl hpoll
  | wrU1Ctrl w | wrU2Ctrl w | wrU4Ctrl w =>
    exact congrArg Host.Outcome.next (writeCtrl_withTicks s.quiet a b _ w)
  | wrU3Ctrl w => exact execWrU3Ctrl_withTicks s a b w
  | wrU1Prescale w | wrU2Prescale w | wrU3Prescale w | wrU4Prescale w =>
    exact writePrescale_withTicks s a b _ w
  | wrU2Match0 w | wrU3Match0 w | wrU4Match0 w => exact writeMatch0_withTicks s a b _ w
  | wrU3Match1 w => exact execWrU3Match1_withTicks s a b w
  | wrU3Role w => exact execWrU3Role_withTicks s a b w
  | wrPipeCtrl w => exact execWrPipeCtrl_withTicks s a b w
  | wrPipeCmd w => exact congrArg Host.Outcome.next (pipeCmdState_withTicks s.quiet a b w)
  | evtClk => exact execEvtClk_withTicks s a b
  | evtAdcDone data => exact execEvtAdcDone_withTicks s a b data
  -- The other reads, the writes without a test, `TICK` and `RESET`: one update of the state.
  | _ => rfl

end

theorem exec_withTicks_next {i : Instr} {s t : State} (hcnt : i ≠ .rdTickCnt) (hpoll : i ≠ .rdSlowPoll)
    (h : exec i s = .next t) (a b : Word) :
    exec i (s.withTicks a b) =
      .next (t.withTicks (tickCntAfter i s.cfg a) (slowPollAfter i s.cfg b)) := by
  rw [exec_withTicks s a b hcnt hpoll, h]
  rfl

/-- The counters after a completed operation: the rest of the block has no say in them. -/
theorem exec_ticks {i : Instr} {s t : State} (h : exec i s = .next t) :
    t.tickCnt = tickCntAfter i s.cfg s.tickCnt ∧ t.slowPoll = slowPollAfter i s.cfg s.slowPoll := by
  by_cases hcnt : i = .rdTickCnt
  · subst hcnt
    obtain rfl := Host.Outcome.next.inj h
    exact ⟨rfl, rfl⟩
  by_cases hpoll : i = .rdSlowPoll
  · subst hpoll
    obtain rfl := Host.Outcome.next.inj h
    exact ⟨rfl, rfl⟩
  have hself : exec i s = .next (t.withTicks _ _) :=
    exec_withTicks_next hcnt hpoll h s.tickCnt s.slowPoll
  have heq : t = t.withTicks _ _ := Host.Outcome.next.inj (h.symm.trans hself)
  exact ⟨congrArg State.tickCnt heq, congrArg State.slowPoll heq⟩

/-- Settles O11: the frame and the independence are both read off `exec_withTicks`. -/
theorem tickServiceIndependent : Obligations.TickServiceIndependent := by
  unfold Obligations.TickServiceIndependent
  intro i s t h
  obtain ⟨hcnt, hpoll⟩ := exec_ticks h
  refine ⟨fun hreset htick hclear => ?_, fun hreset htick hreload => ?_, fun hrdCnt hrdPoll a b => ?_⟩
  · rw [hcnt, tickCntAfter_other _ _ hreset htick hclear]
  · rw [hpoll, slowPollAfter_other _ _ hreset htick hreload]
  · exact ⟨_, exec_withTicks_next hrdCnt hrdPoll h a b, rfl⟩

/-! ## The parameters under every operation (`00_scope` R6) -/

theorem produce_cfg (data : Word) (s : State) : (produce data s).cfg = s.cfg := by
  rw [produce_eq]
  split
  · rw [completeBuffer_eq]
  · rfl

theorem sessionReset_cfg (s : State) : (sessionReset s).cfg = s.cfg := by
  unfold sessionReset
  split <;> rfl

theorem pipeCmdState_cfg (w : Word) (s : State) : (pipeCmdState w s).cfg = s.cfg := by
  simp only [pipeCmdState, apply_ite State.cfg, sessionReset_cfg, edgeClr_cfg, drain_cfg, quiet_cfg,
    ite_self]

/-- No operation changes the parameters. -/
theorem exec_cfg {i : Instr} {s t : State} (h : exec i s = .next t) : t.cfg = s.cfg := by
  cases exec_effect h with
  | keeps hk => exact hk.cfg
  | command w => exact pipeCmdState_cfg w s
  | reset ht => obtain rfl := Host.Outcome.next.inj ht; rfl
  | convert data _ => exact produce_cfg data s.quiet
  | clearTickCnt _ | reloadSlowPoll _ | selectSource _ _ _ | changeRole _ _ | tick => rfl

/-! ## The counters over a run of operations (`40_tick_service` R105) -/

/-- A completed run is a first operation and a completed rest. -/
theorem runOps_cons_next {i : Instr} {is : List Instr} {s t : State} (h : runOps (i :: is) s = .next t) :
    ∃ u, exec i s = .next u ∧ runOps is u = .next t := by
  simp only [runOps] at h
  split at h
  · exact ⟨_, ‹_›, h⟩
  · cases h
  · cases h

/-- The induction over a run that counts its `TICK`s. What holds of `n` and the state goes to `n + 1` with a
`TICK` and stays at `n` with any other operation of the run, so at the end it holds of `n` and their count. -/
theorem runOps_tick_induction {R : Nat → State → Prop} {is : List Instr}
    (htick : ∀ n u v, R n u → exec .evtTick u = .next v → R (n + 1) v)
    (hother : ∀ i ∈ is, i ≠ .evtTick → ∀ n u v, R n u → exec i u = .next v → R n v)
    {n : Nat} {s t : State} (hs : R n s) (h : runOps is s = .next t) : R (is.count .evtTick + n) t := by
  induction is generalizing n s with
  | nil =>
    obtain rfl := Host.Outcome.next.inj h
    rwa [List.count_nil, Nat.zero_add]
  | cons i is ih =>
    obtain ⟨u, hu, hrest⟩ := runOps_cons_next h
    have ih' := @ih fun j hj => hother j (List.mem_cons_of_mem i hj)
    by_cases hi : i = .evtTick
    · subst hi
      rw [List.count_cons_self, Nat.add_right_comm]
      exact ih' (htick n s u hs hu) hrest
    · rw [List.count_cons_of_ne hi]
      exact ih' (hother i List.mem_cons_self hi n s u hs hu) hrest

/-- From 0, `n` `TICK`s without a clear or a `RESET` count up to `min(n, TICK_MAX)` (R105 (1)). -/
theorem runOps_tickCnt {is : List Instr} {s t : State} (hzero : s.tickCnt = 0)
    (hreset : Instr.evtReset ∉ is) (hclear : ∀ v, Instr.wrTickCnt v ∉ is) (h : runOps is s = .next t) :
    t.tickCnt.toNat = min (is.count .evtTick) s.cfg.tickMax.toNat := by
  refine (runOps_tick_induction (n := 0)
    (R := fun n u => u.cfg = s.cfg ∧ u.tickCnt.toNat = min n s.cfg.tickMax.toNat)
    ?tick ?other ?start h).2
  case tick =>
    intro n u v ⟨hcfg, hcnt⟩ hv
    refine ⟨(exec_cfg hv).trans hcfg, ?_⟩
    rw [(exec_ticks hv).1, tickCntAfter_tick, satInc_toNat, hcfg, hcnt]
    split <;> omega
  case other =>
    intro i hi htick n u v ⟨hcfg, hcnt⟩ hv
    refine ⟨(exec_cfg hv).trans hcfg, ?_⟩
    rw [(exec_ticks hv).1, tickCntAfter_other _ _ (ne_of_mem_of_not_mem hi hreset) htick
      fun w => ne_of_mem_of_not_mem hi (hclear w), hcnt]
  case start => simp [hzero]

/-- `n` `TICK`s without a reload or a `RESET` count `slow_poll` down by `n`, to 0 at the least (R105 (2)). -/
theorem runOps_slowPoll {is : List Instr} {s t : State} (hreset : Instr.evtReset ∉ is)
    (hreload : ∀ v, Instr.wrSlowPoll v ∉ is) (h : runOps is s = .next t) :
    t.slowPoll.toNat = s.slowPoll.toNat - is.count .evtTick := by
  refine runOps_tick_induction (n := 0)
    (R := fun n u => u.slowPoll.toNat = s.slowPoll.toNat - n) ?tick ?other ?start h
  case tick =>
    intro n u v hpoll hv
    rw [(exec_ticks hv).2, slowPollAfter_tick, decFloor0_toNat, hpoll, Nat.sub_sub]
  case other =>
    intro i hi htick n u v hpoll hv
    rw [(exec_ticks hv).2, slowPollAfter_other _ _ (ne_of_mem_of_not_mem hi hreset) htick
      fun w => ne_of_mem_of_not_mem hi (hreload w), hpoll]
  case start => rfl

/-- Settles O10: the run after the write starts from 0, or from `SP_PERIOD`. -/
theorem tickCountsAfterClearAndReload : Obligations.TickCountsAfterClearAndReload := by
  unfold Obligations.TickCountsAfterClearAndReload
  intro w is s t hreset
  refine ⟨fun hclear h => ?_, fun hreload h => ?_⟩
  · obtain ⟨u, hu, hrun⟩ := runOps_cons_next h
    have hzero : u.tickCnt = 0 := (exec_ticks hu).1
    rw [runOps_tickCnt hzero hreset hclear hrun, exec_cfg hu]
  · obtain ⟨u, hu, hrun⟩ := runOps_cons_next h
    have hfull : u.slowPoll = s.cfg.spPeriod := (exec_ticks hu).2
    rw [runOps_slowPoll hreset hreload hrun, hfull]
    omega

/-! ## The operations of the Tick Service (`40_tick_service` R100 to R104) -/

/-- `dec_floor0` by its one exception, the value 0. -/
theorem decFloor0_eq (v : Word) : decFloor0 v = if v = 0 then 0 else v - 1 := by
  unfold decFloor0
  by_cases h : v = 0
  · subst h
    rfl
  · rw [if_neg h, if_pos (by bv_omega)]

/-- Settles O8: the event row of `TICK`, and the two steps of R100 in the statement's spelling. -/
theorem tickEvent : Obligations.TickEvent := by
  unfold Obligations.TickEvent
  refine ⟨fun data => decode_evtWord _ data, fun s => ?_⟩
  rw [← decFloor0_eq]
  rfl

/-- Settles O9: each register's row for any data, and its operation's one update. -/
theorem tickServiceHostAccess : Obligations.TickServiceHostAccess := by
  unfold Obligations.TickServiceHostAccess
  refine ⟨⟨fun data => decode_rdWord _ data, fun s => rfl⟩, ⟨fun data => decode_rdWord _ data, fun s => rfl⟩,
    fun w => decode_wrWord _ w, fun w => decode_wrWord _ w, fun w s => ⟨rfl, rfl⟩⟩

end Sys2Proof.Machine

/-! PROOF. The timer units (`41_timer_units`): what one `CLK` does to the state, the course of the counters over any
number of `CLK`s (R129) with the outputs that follow it, and the reads and writes of the units' registers. -/

namespace Sys2Proof.Machine

open Sys2Proof

/-! ## One unit under one `CLK` (`41_timer_units` R121 to R128) -/

/-- What the end of a sample period of unit 3 shows and steps: the trigger in live mode, one pacing step in
playback (`41_timer_units` R126, `43_frame_pacing` R190, R192). -/
def sampleEdge (trigger pace : Bool) (s : State) : State := { s with
  pbDiv := if pace && decide (s.pbDiv = 511#9) then 0 else if pace then s.pbDiv + 1 else s.pbDiv
  fpe := s.fpe || (pace && decide (s.pbDiv = 511#9))
  missedCount := if (pace && decide (s.pbDiv = 511#9)) && s.fpe then bump s.missedCount else s.missedCount
  out := { s.out with adcTrigger := trigger || s.out.adcTrigger } }

theorem sampleEdge_none (s : State) : sampleEdge false false s = s := by
  simp [sampleEdge]

theorem sampleEdge_pace (s : State) : sampleEdge false true s = paceStep s := by
  simp [sampleEdge, paceStep_eq]

theorem sampleEdge_trigger (pace : Bool) (s : State) :
    sampleEdge true pace s = sampleEdge false pace s.emitTrigger := rfl

/-- The edge of unit 3 is one of the sample role: none in the tone role (R127). -/
theorem samplePeriodEdge_eq_sampleEdge (s : State) :
    samplePeriodEdge s = sampleEdge (!s.u3Tone && s.capEn) (!s.u3Tone && s.pbEn) s := by
  rw [samplePeriodEdge_eq]
  cases s.u3Tone with
  | true => exact (sampleEdge_none s).symm
  | false =>
    cases s.pbEn with
    | true =>
      cases s.capEn with
      | true => exact ((sampleEdge_trigger true s).trans (sampleEdge_pace _)).symm
      | false => exact (sampleEdge_pace s).symm
    | false =>
      cases s.capEn with
      | true => exact ((sampleEdge_trigger false s).trans (sampleEdge_none _)).symm
      | false => exact (sampleEdge_none s).symm

/-- Unit 3 under one `CLK`, its edge as a value. -/
theorem clockUnit_u3_eq (s : State) :
    clockUnit .u3 s = sampleEdge ((matchesNow s.u3Match0 s.u3 && !s.u3Tone) && s.capEn)
      ((matchesNow s.u3Match0 s.u3 && !s.u3Tone) && s.pbEn) { s with u3 := runToMatch s.u3Match0 s.u3 } := by
  rw [clockUnit_u3]
  cases matchesNow s.u3Match0 s.u3 with
  | true => exact samplePeriodEdge_eq_sampleEdge _
  | false => exact (sampleEdge_none _).symm

/-! ## The whole `CLK` (`41_timer_units` R121) -/

/-- The state after `CLK`. -/
def clkNext (s : State) : State :=
  clockUnit .u4 (clockUnit .u3 (clockUnit .u2 (clockUnit .u1 s.quiet)))

theorem exec_evtClk (s : State) : exec .evtClk s = .next (clkNext s) := rfl

/-- The four units' updates put together: no unit reads what an earlier one wrote. -/
theorem clkNext_eq (s : State) :
    clkNext s = sampleEdge ((matchesNow s.u3Match0 s.u3 && !s.u3Tone) && s.capEn)
      ((matchesNow s.u3Match0 s.u3 && !s.u3Tone) && s.pbEn) { s with
      u1 := runFree s.u1
      u2 := runToMatch s.u2Match0 s.u2
      u3 := runToMatch s.u3Match0 s.u3
      u4 := runToMatch s.u4Match0 s.u4
      clkOut := if matchesNow s.u2Match0 s.u2 then !s.clkOut else s.clkOut
      out := Output.quiet } := by
  rw [clkNext, clockUnit_u1, clockUnit_u2, clockUnit_u3_eq, clockUnit_u4]
  rfl

/-- Settles O13: the event row of `CLK`, and the update of all four units at once. -/
theorem clkAdvancesTheUnits : Obligations.ClkAdvancesTheUnits := by
  unfold Obligations.ClkAdvancesTheUnits
  refine ⟨fun data => decode_evtWord _ data, ?_⟩
  rintro s edge3 pace set rfl rfl rfl
  rw [exec_evtClk, clkNext_eq, sampleEdge, Output.quiet, Bool.or_false]

/-- The clock periods of two units commute: neither reads a field that the other writes. -/
theorem clockUnit_comm (k j : UnitId) (s : State) :
    clockUnit k (clockUnit j s) = clockUnit j (clockUnit k s) := by
  cases k <;> cases j <;>
    simp only [clockUnit_u1, clockUnit_u2, clockUnit_u3_eq, clockUnit_u4, sampleEdge]

/-- Settles O14: a fold of commuting steps depends on its list up to order only. -/
theorem clkUnitOrderUnobservable : Obligations.ClkUnitOrderUnobservable := by
  unfold Obligations.ClkUnitOrderUnobservable
  intro s ks hperm
  have hcomm : RightCommutative fun t k => clockUnit k t := ⟨fun t k j => clockUnit_comm j k t⟩
  rw [hperm.foldl_eq]
  rfl

/-! ### The fields after a `CLK` -/

@[simp] theorem clkNext_u1 (s : State) : (clkNext s).u1 = runFree s.u1 := by rw [clkNext_eq]; rfl
@[simp] theorem clkNext_u2 (s : State) : (clkNext s).u2 = runToMatch s.u2Match0 s.u2 := by
  rw [clkNext_eq]; rfl
@[simp] theorem clkNext_u3 (s : State) : (clkNext s).u3 = runToMatch s.u3Match0 s.u3 := by
  rw [clkNext_eq]; rfl
@[simp] theorem clkNext_u4 (s : State) : (clkNext s).u4 = runToMatch s.u4Match0 s.u4 := by
  rw [clkNext_eq]; rfl
@[simp] theorem clkNext_u2Match0 (s : State) : (clkNext s).u2Match0 = s.u2Match0 := by rw [clkNext_eq]; rfl
@[simp] theorem clkNext_u3Match0 (s : State) : (clkNext s).u3Match0 = s.u3Match0 := by rw [clkNext_eq]; rfl
@[simp] theorem clkNext_u4Match0 (s : State) : (clkNext s).u4Match0 = s.u4Match0 := by rw [clkNext_eq]; rfl
@[simp] theorem clkNext_u3Tone (s : State) : (clkNext s).u3Tone = s.u3Tone := by rw [clkNext_eq]; rfl
@[simp] theorem clkNext_capEn (s : State) : (clkNext s).capEn = s.capEn := by rw [clkNext_eq]; rfl

theorem clkNext_clkOut (s : State) :
    (clkNext s).clkOut = if matchesNow s.u2Match0 s.u2 then !s.clkOut else s.clkOut := by
  rw [clkNext_eq]; rfl

/-- A `CLK` emits the trigger where a match of unit 3 in its sample role meets the live source. -/
theorem clkNext_adcTrigger (s : State) :
    (clkNext s).out.adcTrigger = ((matchesNow s.u3Match0 s.u3 && !s.u3Tone) && s.capEn) := by
  rw [clkNext_eq]
  exact Bool.or_false _

/-! ## Any number of `CLK`s -/

theorem runOps_clks (n : Nat) (s : State) :
    runOps (List.replicate n .evtClk) s = .next (clkNext^[n] s) := by
  induction n generalizing s with
  | zero => rfl
  | succ n ih => rw [List.replicate_succ, runOps_cons _ _ _ _ (exec_evtClk s), ih, Function.iterate_succ_apply]

/-- What one `CLK` keeps, any number keeps. -/
theorem clks_keep {α : Type} {f : State → α} (h : ∀ s, f (clkNext s) = f s) (n : Nat) (s : State) :
    f (clkNext^[n] s) = f s := by
  induction n with
  | zero => rfl
  | succ n ih => rw [Function.iterate_succ_apply', h, ih]

/-! ### Counters that wrap, as numbers -/

/-- Short of a multiple, one more is one more of the remainder. -/
theorem add_one_mod_of_ne_zero {a b : Nat} (h : (a + 1) % (b + 1) ≠ 0) :
    (a + 1) % (b + 1) = a % (b + 1) + 1 := by
  have hlast : a % (b + 1) ≠ b := fun he => h (Nat.succ_mod_succ_eq_zero_iff.mpr he)
  have hlt := Nat.mod_lt a (Nat.add_one_pos b)
  rw [← Nat.mod_add_mod, Nat.mod_eq_of_lt (by omega)]

theorem word_toNat_add_one {v b : Word} (h : ¬ b ≤ v) : (v + 1).toNat = v.toNat + 1 := by
  have hb := b.isLt
  bv_omega

/-! ### The counting period (`41_timer_units` R129) -/

/-- Unit 1 counts as a unit whose match value is the greatest word: its wrap is that match (R124). -/
theorem runFree_eq_runToMatch (u : TimerUnit) : runFree u = runToMatch (BitVec.allOnes 32) u := by
  have hcount : (if BitVec.allOnes 32 ≤ u.count then 0 else u.count + 1) = u.count + 1 := by
    split
    next h =>
      rw [BitVec.allOnes_le_iff.mp h]
      rfl
    next => rfl
  rw [runFree, runToMatch, hcount]

@[simp] theorem runToMatch_en (m : Word) (u : TimerUnit) : (runToMatch m u).en = u.en := by
  unfold runToMatch
  split
  · rfl
  · split <;> rfl

theorem matchesNow_disarmed {m : Word} {u : TimerUnit} (h : u.en = false) : matchesNow m u = false := by
  simp [matchesNow, h]

/-- The unit with prescale value `p` and match value `m` has seen `n` `CLK`s since it was cleared and
armed. -/
structure CountedTo (p m : Word) (n : Nat) (u : TimerUnit) : Prop where
  /-- It is armed. -/
  en : u.en = true
  /-- Its prescale value is unchanged. -/
  prescale : u.prescale = p
  /-- The prescale counter runs through `p + 1` values. -/
  psc : u.psc.toNat = n % (p.toNat + 1)
  /-- The counter runs through `m + 1` values, one for each round of the prescale counter. -/
  count : u.count.toNat = n / (p.toNat + 1) % (m.toNat + 1)

theorem Fresh.countedTo {u : TimerUnit} (h : Fresh u) (m : Word) : CountedTo u.prescale m 0 u := by
  obtain ⟨hen, hcount, hpsc⟩ := h
  exact ⟨hen, rfl, by simp [hpsc], by simp [hcount]⟩

section
variable {p m : Word} {n : Nat} {u : TimerUnit}

/-- The prescale counter stands at `p` before the `CLK`s numbered by the multiples of `p + 1`. -/
theorem CountedTo.prescale_le_psc_iff (h : CountedTo p m n u) :
    u.prescale ≤ u.psc ↔ (n + 1) % (p.toNat + 1) = 0 := by
  have hlt := Nat.mod_lt n (Nat.add_one_pos p.toNat)
  rw [Nat.succ_mod_succ_eq_zero_iff, h.prescale, BitVec.le_def, h.psc]
  omega

/-- The counter stands at `m` before the counts numbered by the multiples of `m + 1`. -/
theorem CountedTo.match_le_count_iff (h : CountedTo p m n u) :
    m ≤ u.count ↔ (n / (p.toNat + 1) + 1) % (m.toNat + 1) = 0 := by
  have hlt := Nat.mod_lt (n / (p.toNat + 1)) (Nat.add_one_pos m.toNat)
  rw [Nat.succ_mod_succ_eq_zero_iff, BitVec.le_def, h.count]
  omega

theorem CountedTo.step (h : CountedTo p m n u) : CountedTo p m (n + 1) (runToMatch m u) := by
  have harmed : ¬ u.en = false := by simp [h.en]
  rw [runToMatch, if_neg harmed]
  by_cases hround : (n + 1) % (p.toNat + 1) = 0
  · rw [if_pos (h.prescale_le_psc_iff.mpr hround)]
    refine ⟨h.en, h.prescale, hround.symm, ?_⟩
    rw [Nat.succ_div_of_mod_eq_zero hround]
    by_cases hmatch : (n / (p.toNat + 1) + 1) % (m.toNat + 1) = 0
    · rw [if_pos (h.match_le_count_iff.mpr hmatch), hmatch]
      rfl
    · have hbelow := mt h.match_le_count_iff.mp hmatch
      rw [if_neg hbelow, add_one_mod_of_ne_zero hmatch, ← h.count]
      exact word_toNat_add_one hbelow
  · have hbelow := mt h.prescale_le_psc_iff.mp hround
    rw [if_neg hbelow]
    refine ⟨h.en, h.prescale, ?_, ?_⟩
    · rw [add_one_mod_of_ne_zero hround, ← h.psc]
      exact word_toNat_add_one hbelow
    · rw [Nat.succ_div_of_mod_ne_zero hround, ← h.count]

/-- The `CLK`s that match are those numbered by the multiples of the period `(p + 1) (m + 1)`. -/
theorem CountedTo.matchesNow_eq (h : CountedTo p m n u) :
    matchesNow m u = decide ((n + 1) % ((p.toNat + 1) * (m.toNat + 1)) = 0) := by
  have hperiod : (n + 1) % ((p.toNat + 1) * (m.toNat + 1)) = 0 ↔ u.prescale ≤ u.psc ∧ m ≤ u.count := by
    rw [h.prescale_le_psc_iff, h.match_le_count_iff, Nat.mod_mul, Nat.add_eq_zero_iff]
    refine and_congr_right fun hmod => ?_
    rw [Nat.succ_div_of_mod_eq_zero hmod]
    simp
  simp [matchesNow, h.en, hperiod]

end

/-- The unit `f`, whose match value is `g` and stays, after `n` `CLK`s from clear and arm. -/
theorem clks_countedTo {f : State → TimerUnit} {g : State → Word}
    (hf : ∀ s, f (clkNext s) = runToMatch (g s) (f s)) (hg : ∀ s, g (clkNext s) = g s)
    (n : Nat) {s : State} (h : Fresh (f s)) : CountedTo (f s).prescale (g s) n (f (clkNext^[n] s)) := by
  induction n with
  | zero => exact h.countedTo (g s)
  | succ n ih =>
    rw [Function.iterate_succ_apply', hf, clks_keep hg]
    exact ih.step

theorem clks_u2 (n : Nat) {s : State} (h : Fresh s.u2) :
    CountedTo s.u2.prescale s.u2Match0 n (clkNext^[n] s).u2 :=
  clks_countedTo clkNext_u2 clkNext_u2Match0 n h

theorem clks_u3 (n : Nat) {s : State} (h : Fresh s.u3) :
    CountedTo s.u3.prescale s.u3Match0 n (clkNext^[n] s).u3 :=
  clks_countedTo clkNext_u3 clkNext_u3Match0 n h

/-- Settles O15: each unit is one of `clks_countedTo`, unit 1 with the greatest word for its match value. -/
theorem unitCountingPeriods : Obligations.UnitCountingPeriods := by
  unfold Obligations.UnitCountingPeriods
  intro n s
  refine ⟨_, runOps_clks n s, fun h1 => ?_, fun h2 => ?_, fun h3 => ?_, fun h4 => ?_⟩
  · have hu1 : ∀ t, (clkNext t).u1 = runToMatch (BitVec.allOnes 32) t.u1 := fun t => by
      rw [clkNext_u1, runFree_eq_runToMatch]
    have h := clks_countedTo hu1 (fun _ => rfl) n h1
    exact ⟨h.psc, h.count⟩
  · exact ⟨(clks_u2 n h2).psc, (clks_u2 n h2).count⟩
  · exact ⟨(clks_u3 n h3).psc, (clks_u3 n h3).count⟩
  · have h := clks_countedTo clkNext_u4 clkNext_u4Match0 n h4
    exact ⟨h.psc, h.count⟩

/-! ### The outputs of units 2 and 3 (`41_timer_units` R125, R126, R135, R137) -/

theorem decide_odd_add_one (k : Nat) : decide ((k + 1) % 2 = 1) = !decide (k % 2 = 1) := by
  rw [← decide_not, decide_eq_decide]
  omega

/-- From clear and arm the stored bit has toggled once for every period that is over. -/
theorem clks_clkOut (n : Nat) {s : State} (h : Fresh s.u2) :
    (clkNext^[n] s).clkOut = (s.clkOut ^^
      decide (n / ((s.u2.prescale.toNat + 1) * (s.u2Match0.toNat + 1)) % 2 = 1)) := by
  induction n with
  | zero => simp
  | succ n ih =>
    rw [Function.iterate_succ_apply', clkNext_clkOut, clks_keep clkNext_u2Match0, (clks_u2 n h).matchesNow_eq, ih,
      Nat.succ_div]
    by_cases hperiod : (s.u2.prescale.toNat + 1) * (s.u2Match0.toNat + 1) ∣ n + 1
    · rw [if_pos (decide_eq_true (Nat.mod_eq_zero_of_dvd hperiod)), if_pos hperiod, decide_odd_add_one,
        Bool.xor_not]
    · simp [hperiod, ← Nat.dvd_iff_mod_eq_zero]

theorem clks_u2_en (n : Nat) (s : State) : (clkNext^[n] s).u2.en = s.u2.en :=
  clks_keep (f := (·.u2.en)) (fun t => by rw [clkNext_u2, runToMatch_en]) n s

/-- While unit 2 is disarmed its pin's bit is held. -/
theorem clks_clkOut_disarmed (n : Nat) {s : State} (h : s.u2.en = false) :
    (clkNext^[n] s).clkOut = s.clkOut := by
  induction n with
  | zero => rfl
  | succ n ih =>
    rw [Function.iterate_succ_apply', clkNext_clkOut, matchesNow_disarmed ((clks_u2_en n s).trans h), ih]
    rfl

/-- The `CLK` after `n` others from clear and arm emits the trigger if it ends a sample period. -/
theorem clks_adcTrigger (n : Nat) {s : State} (h : Fresh s.u3) :
    (clkNext^[n + 1] s).out.adcTrigger = (s.capEn && !s.u3Tone &&
      decide ((n + 1) % ((s.u3.prescale.toNat + 1) * (s.u3Match0.toNat + 1)) = 0)) := by
  rw [Function.iterate_succ_apply', clkNext_adcTrigger, clks_keep clkNext_u3Match0, clks_keep clkNext_u3Tone,
    clks_keep clkNext_capEn, (clks_u3 n h).matchesNow_eq]
  ac_rfl

/-! ### The shared write of `CTRL` (`41_timer_units` R130, R131) -/

/-- The registers of a unit after a write of its `CTRL`. -/
def ctrlWritten (w : Word) (u : TimerUnit) : TimerUnit := { u with
  en := w.getLsbD 0
  count := if w.getLsbD 1 then 0 else u.count
  psc := if w.getLsbD 1 then 0 else u.psc }

theorem writeCtrl_u2 (w : Word) (s : State) :
    writeCtrl .u2 w s = { s with
      u2 := ctrlWritten w s.u2
      clkOut := if w.getLsbD 1 then false else s.clkOut } := by
  rw [writeCtrl_eq]
  simp only [and_true]
  rfl

/-- Only unit 2 has a pin that `CLR` takes low. -/
theorem writeCtrl_other {k : UnitId} (hk : k ≠ .u2) (w : Word) (s : State) :
    writeCtrl k w s = s.setUnit k (ctrlWritten w (s.unit k)) := by
  have hpin : ¬ (fieldClr w = true ∧ k = .u2) := fun h => hk h.2
  rw [writeCtrl_eq, if_neg hpin]
  cases k <;> rfl

/-! ### The periods as the ports show them -/

/-- Settles O16: the write of `U2_CTRL`, the output by unit 2's arming, and the two periods by the number of
`CLK`s. -/
theorem clockOutAndTriggerPeriods : Obligations.ClockOutAndTriggerPeriods := by
  unfold Obligations.ClockOutAndTriggerPeriods
  refine ⟨fun w s => ⟨_, rfl, ?write⟩,
    fun n s => ⟨_, runOps_clks n s, ?armed, ?disarmed, clks_clkOut n, ?trigger⟩⟩
  case write =>
    rw [writeCtrl_u2]
    cases hclr : w.getLsbD 1 <;> simp [clkOutLevel, ctrlWritten, hclr]
  case armed =>
    intro hen
    exact clkOutLevel_armed _ ((clks_u2_en n s).trans hen)
  case disarmed =>
    intro hen
    exact ⟨clks_clkOut_disarmed n hen, clkOutLevel_disarmed _ ((clks_u2_en n s).trans hen)⟩
  case trigger =>
    intro hfresh hn
    obtain ⟨k, rfl⟩ := Nat.exists_eq_add_of_le' hn
    exact clks_adcTrigger k hfresh

/-! ### The levels by the count (`41_timer_units` R139, R141, R147) -/

theorem tonePwm_iff (s : State) : tonePwm s = true ↔
    s.u3.en = true ∧ s.u3Tone = true ∧ s.u3Match1.toNat ≤ s.u3.count.toNat := by
  simp [tonePwm, BitVec.le_def, and_assoc]

theorem blPwm_iff (s : State) :
    blPwm s = true ↔ s.u4.en = true ∧ s.u4Match1.toNat ≤ s.u4.count.toNat := by
  simp [blPwm, BitVec.le_def]

/-- Settles O25, level by level. -/
theorem outputLevels : Obligations.OutputLevels := by
  unfold Obligations.OutputLevels
  exact fun s => ⟨tonePwm_iff s, blPwm_iff s, decide_eq_true_iff, Iff.rfl⟩

/-- Of the numbers below `n`, those from `d` on. -/
theorem length_filter_le_range (d n : Nat) :
    ((List.range n).filter fun c => decide (d ≤ c)).length = n - d := by
  induction n with
  | zero => simp
  | succ n ih =>
    rw [List.range_succ, List.filter_append, List.length_append, ih]
    by_cases h : d ≤ n
    · rw [List.filter_singleton, decide_eq_true h, cond_true, List.length_singleton, Nat.sub_add_comm h]
    · rw [List.filter_singleton, decide_eq_false h, cond_false, List.length_nil]
      omega

/-- A level that is high from the duty `d` on is high for `m + 1 - min(d, m + 1)` of the count values of a period
with match value `m`. -/
theorem high_count_of_iff {level : Nat → Bool} {d m : Word}
    (h : ∀ c ≤ m.toNat, (level c = true ↔ d.toNat ≤ c)) :
    ((List.range (m.toNat + 1)).filter level).length =
      m.toNat + 1 - min d.toNat (m.toNat + 1) := by
  have hlevel : (List.range (m.toNat + 1)).filter level =
      (List.range (m.toNat + 1)).filter fun c => decide (d.toNat ≤ c) :=
    List.filter_congr fun c hc => by
      rw [Bool.eq_iff_iff, h c (Nat.le_of_lt_succ (List.mem_range.mp hc)), decide_eq_true_iff]
  rw [hlevel, length_filter_le_range]
  omega

/-- A count value of a period is a word. -/
theorem toNat_ofNat_of_le {c : Nat} {m : Word} (h : c ≤ m.toNat) : (BitVec.ofNat 32 c).toNat = c :=
  (BitVec.toNat_ofNat c 32).trans (Nat.mod_eq_of_lt (Nat.lt_of_le_of_lt h m.isLt))

/-- Settles O26: both levels are high from their duty on. -/
theorem pwmDutyIsInverted : Obligations.PwmDutyIsInverted := by
  unfold Obligations.PwmDutyIsInverted
  intro s
  refine ⟨fun hen => high_count_of_iff fun c hc => ?_, fun hen htone => high_count_of_iff fun c hc => ?_⟩
  · rw [blPwm_iff, toNat_ofNat_of_le hc]
    simp [hen]
  · rw [tonePwm_iff, toNat_ofNat_of_le hc]
    simp [hen, htone]

/-! ## Reads of the units' registers (`41_timer_units` R138 to R145) -/

theorem bitWord_eq (b : Bool) : bitWord b = if b then 1 else 0 := by
  cases b <;> rfl

/-- `ROLE` of unit 3: `TONE` in bit 8 beside the role code (R145). -/
theorem u3RoleWord_eq (tone : Bool) :
    (bitWord tone <<< 8) ||| roleCode .u3 = if tone then 0x102 else 2 := by
  cases tone <;> rfl

/-- A register's `RD` row for any data, and its operation's answer. -/
theorem readOf_intro {i : Instr} {a : Addr} {v : State → Word} (hrow : decodeRd a = i)
    (hexec : ∀ s, exec i s = .next (s.answer (v s))) : ReadOf i a v :=
  ⟨fun data => (decode_rdWord a data).trans hrow, hexec⟩

/-- The template of the `CTRL` reads (R138). -/
theorem readOf_ctrl {i : Instr} {a : Addr} (k : UnitId) (hrow : decodeRd a = i)
    (hexec : ∀ s, exec i s = .next (readCtrl k s)) :
    ReadOf i a (fun s => if (s.unit k).en then 1 else 0) :=
  readOf_intro hrow fun s => by rw [hexec, readCtrl, bitWord_eq]

/-- Settles O18, register by register. -/
theorem unitRegisterReads : Obligations.UnitRegisterReads := by
  unfold Obligations.UnitRegisterReads
  refine ⟨?ctrl, ?prescale, ?match0, ?match1, ?count, ?role⟩
  case ctrl =>
    exact ⟨readOf_ctrl .u1 rfl fun _ => rfl, readOf_ctrl .u2 rfl fun _ => rfl,
      readOf_ctrl .u3 rfl fun _ => rfl, readOf_ctrl .u4 rfl fun _ => rfl⟩
  case role =>
    refine ⟨readOf_intro rfl fun _ => rfl, readOf_intro rfl fun _ => rfl, readOf_intro rfl fun s => ?_,
      readOf_intro rfl fun _ => rfl⟩
    rw [← u3RoleWord_eq]
    rfl
  -- The other registers are answered as they stand, 0 where a unit does not have them.
  all_goals
    exact ⟨readOf_intro rfl fun _ => rfl, readOf_intro rfl fun _ => rfl, readOf_intro rfl fun _ => rfl,
      readOf_intro rfl fun _ => rfl⟩

/-! ## Writes of the units' registers (`41_timer_units` R130 to R136) -/

/-- A register's `WR` row. -/
theorem writeAt_intro {i : Word → Instr} {a : Addr} (hrow : ∀ w, decodeWr a w = i w) : WriteAt i a :=
  fun w => (decode_wrWord a w).trans (hrow w)

/-- Settles O19: the shared write of `CTRL`, with the pin for unit 2. -/
theorem writeCtrlOfUnits124 : Obligations.WriteCtrlOfUnits124 := by
  unfold Obligations.WriteCtrlOfUnits124
  refine ⟨writeAt_intro fun _ => rfl, writeAt_intro fun _ => rfl, writeAt_intro fun _ => rfl,
    fun w s => ⟨?_, ?_, ?_⟩⟩
  · exact congrArg Host.Outcome.next (writeCtrl_other (by decide) w s.quiet)
  · exact congrArg Host.Outcome.next (writeCtrl_u2 w s.quiet)
  · exact congrArg Host.Outcome.next (writeCtrl_other (by decide) w s.quiet)

theorem srcOn_iff (s : State) : s.srcOn = true ↔ s.capEn = true ∨ s.pbEn = true := Bool.or_eq_true_iff

/-- Settles O20: the test of F2, and behind it the shared write of `CTRL`. -/
theorem writeCtrlOfUnit3 : Obligations.WriteCtrlOfUnit3 := by
  unfold Obligations.WriteCtrlOfUnit3
  refine ⟨writeAt_intro fun _ => rfl, fun w s => if_ctx_congr ?test (fun _ => rfl) fun _ => ?store⟩
  case test => simp [srcOn_iff, fieldClr, fieldEn]
  case store => exact congrArg Host.Outcome.next (writeCtrl_other (by decide) w s.quiet)

/-- Settles O21: each unit is the shared write of `PRESCALE`. -/
theorem UnitRegisters.writePrescale : Obligations.WritePrescale := by
  unfold Obligations.WritePrescale
  exact ⟨writeAt_intro fun _ => rfl, writeAt_intro fun _ => rfl, writeAt_intro fun _ => rfl,
    writeAt_intro fun _ => rfl, fun w s => ⟨rfl, rfl, rfl, rfl⟩⟩

/-- Settles O22: nothing for unit 1, else the shared write of `MATCH0`. -/
theorem UnitRegisters.writeMatch0 : Obligations.WriteMatch0 := by
  unfold Obligations.WriteMatch0
  exact ⟨writeAt_intro fun _ => rfl, writeAt_intro fun _ => rfl, writeAt_intro fun _ => rfl,
    writeAt_intro fun _ => rfl, fun w s => ⟨rfl, rfl, rfl, rfl⟩⟩

/-- Settles O23: the duty of unit 4 is stored in every state, so `bl_pwm` compares with it at once. -/
theorem writeMatch1 : Obligations.WriteMatch1 := by
  unfold Obligations.WriteMatch1
  refine ⟨writeAt_intro fun _ => rfl, writeAt_intro fun _ => rfl, writeAt_intro fun _ => rfl,
    writeAt_intro fun _ => rfl, fun w s => ⟨rfl, rfl, rfl, rfl, fun t ht => ?_⟩⟩
  obtain rfl := Host.Outcome.next.inj ht
  exact blPwm_iff _

/-- Settles O24: the tests of unit 3's `ROLE` in their order. -/
theorem writeRole : Obligations.WriteRole := by
  unfold Obligations.WriteRole
  refine ⟨writeAt_intro fun _ => rfl, writeAt_intro fun _ => rfl, writeAt_intro fun _ => rfl,
    writeAt_intro fun _ => rfl, fun w s => ⟨rfl, rfl, rfl, ?_⟩⟩
  have hentering : (fieldTone w && s.srcOn) = true ↔
      w.getLsbD 8 = true ∧ (s.capEn = true ∨ s.pbEn = true) := by
    rw [Bool.and_eq_true, srcOn_iff, fieldTone]
  exact if_congr Iff.rfl rfl (if_congr Iff.rfl rfl (if_congr hentering rfl rfl))

end Sys2Proof.Machine

/-! PROOF. The audio pipeline (`42_audio_pipeline`): what one performed conversion does to every field is said once
(`produce_record`), and what an operation can do to the fields of R183 and R185 is said once
(`exec_pipelineEffect`); the runs of conversions and the bookkeeping along any run follow from the two. -/

namespace Sys2Proof.Machine

open Sys2Proof

/-! ## One conversion (`42_audio_pipeline` R160 to R168) -/

/-- Settles O27: of the low `ADC_W` bits, those above the lowest `ADC_W - 8`. -/
theorem sampleIsTopEightBits : Obligations.SampleIsTopEightBits := by
  unfold Obligations.SampleIsTopEightBits
  intro adcW data hlow _
  have hwidth : 2 ^ adcW = 2 ^ (adcW - 8) * 2 ^ 8 := by rw [← Nat.pow_add, Nat.sub_add_cancel hlow]
  rw [sampleOf, BitVec.extractLsb'_toNat, Nat.shiftRight_eq_div_pow, hwidth, Nat.mod_mul_right_div_self]

theorem exec_evtAdcDone_off {s : State} (h : s.capEn = false) (data : Word) :
    exec (.evtAdcDone data) s = .next s.quiet :=
  congrArg Host.Outcome.next (if_neg (Bool.eq_false_iff.mp h))

theorem exec_evtAdcDone_on {s : State} (h : s.capEn = true) (data : Word) :
    exec (.evtAdcDone data) s = .next (produce data s.quiet) :=
  congrArg Host.Outcome.next (if_pos h)

/-- Settles O28: the event row of `ADC_DONE`, and the dropped event. -/
theorem adcDroppedWithoutLiveSource : Obligations.AdcDroppedWithoutLiveSource := by
  unfold Obligations.AdcDroppedWithoutLiveSource
  exact ⟨fun data => decode_evtWord _ data, fun data s h => exec_evtAdcDone_off h data⟩

/-- Every field that one performed conversion writes. The offset wraps by its width, so one equation says R164
and R165. -/
theorem produce_record (data : Word) (s : State) :
    produce data s = { s with
      pool := s.pool.write (windowAddr s.putIndex.toNat s.fillOffset.toNat) (sampleOf s.cfg.adcW data)
      fillOffset := s.fillOffset + 1
      peak :=
        if s.fillOffset = 511#9 then 0
        else if s.peak.toNat < (sampleOf s.cfg.adcW data).toNat then sampleOf s.cfg.adcW data else s.peak
      fpe := if s.fillOffset = 511#9 then true else s.fpe
      missedCount :=
        if s.fillOffset = 511#9 then if s.fpe then bump s.missedCount else s.missedCount else s.missedCount
      readyCount :=
        if s.fillOffset = 511#9 then
          if s.readyCount.toNat < s.cfg.bufCount - 1 then s.readyCount + 1 else s.readyCount
        else s.readyCount
      overrunCount :=
        if s.fillOffset = 511#9 then
          if s.readyCount.toNat < s.cfg.bufCount - 1 then s.overrunCount else bump s.overrunCount
        else s.overrunCount
      putIndex :=
        if s.fillOffset = 511#9 then
          if s.putIndex.toNat < s.cfg.bufCount - 1 then s.putIndex + 1 else 0
        else s.putIndex } := by
  rw [produce_eq]
  by_cases hlast : s.fillOffset = 511#9
  · rw [if_pos hlast, completeBuffer_eq]
    simp [hlast]
  · simp [hlast, BitVec.lt_def]

/-- Settles O29: the fields of a conversion before offset 511. -/
theorem adcStoresSample : Obligations.AdcStoresSample := by
  unfold Obligations.AdcStoresSample
  rintro data s v a hcap hlast rfl rfl
  refine ⟨_, ?_, memory_read_write_same s.pool _ _, fun b hb => memory_read_write_other s.pool _ b _ hb⟩
  rw [exec_evtAdcDone_on hcap, produce_record]
  simp only [quiet_fillOffset, hlast, if_false]
  rfl

/-- Settles O30: the fields of a conversion at offset 511, whose next offset is 0. -/
theorem adcCompletesBuffer : Obligations.AdcCompletesBuffer := by
  unfold Obligations.AdcCompletesBuffer
  rintro data s a hcap hlast rfl
  refine ⟨_, ?_, memory_read_write_same s.pool _ _, fun b hb => memory_read_write_other s.pool _ b _ hb⟩
  rw [exec_evtAdcDone_on hcap, produce_record]
  simp only [quiet_fillOffset, hlast, if_true]
  rfl

/-- Settles O31: no field of the producer is computed from one of the consumer's. -/
theorem producerIgnoresConsumerState : Obligations.ProducerIgnoresConsumerState := by
  unfold Obligations.ProducerIgnoresConsumerState
  intro data s t t' ready edge overrun missed ht ht'
  obtain rfl := Host.Outcome.next.inj ht
  obtain rfl := Host.Outcome.next.inj ht'
  cases s.capEn with
  | false => exact ⟨rfl, rfl, rfl, rfl⟩
  | true =>
    simp only [if_true, produce_record]
    exact ⟨rfl, rfl, rfl, rfl⟩

/-! ## A run of conversions -/

/-- The state after a list of performed conversions. -/
def capture (ds : List Word) (s : State) : State := ds.foldl (fun u d => produce d u.quiet) s

@[simp] theorem capture_nil (s : State) : capture [] s = s := rfl

theorem capture_concat (ds : List Word) (d : Word) (s : State) :
    capture (ds ++ [d]) s = produce d (capture ds s).quiet := by
  simp [capture]

theorem produce_capEn (data : Word) (s : State) : (produce data s).capEn = s.capEn := by
  rw [produce_record]

theorem produce_fillOffset (data : Word) (s : State) :
    (produce data s).fillOffset.toNat = (s.fillOffset.toNat + 1) % 512 := by
  rw [produce_record]
  rfl

theorem runOps_capture (ds : List Word) {s : State} (h : s.capEn = true) :
    runOps (ds.map .evtAdcDone) s = .next (capture ds s) := by
  induction ds generalizing s with
  | nil => rfl
  | cons d ds ih =>
    rw [List.map_cons, runOps_cons _ _ _ _ (exec_evtAdcDone_on h d)]
    exact ih ((produce_capEn d _).trans h)

theorem capture_cfg (ds : List Word) (s : State) : (capture ds s).cfg = s.cfg := by
  induction ds using List.reverseRecOn with
  | nil => rfl
  | append_singleton ds d ih => rw [capture_concat, produce_cfg, quiet_cfg, ih]

theorem capture_fillOffset (ds : List Word) {s : State} (h : s.fillOffset = 0) :
    (capture ds s).fillOffset.toNat = ds.length % 512 := by
  induction ds using List.reverseRecOn with
  | nil => simp [h]
  | append_singleton ds d ih =>
    rw [capture_concat, produce_fillOffset, quiet_fillOffset, ih, Nat.mod_add_mod, List.length_append,
      List.length_singleton]

theorem fillOffset_last_iff (s : State) : s.fillOffset = 511#9 ↔ s.fillOffset.toNat = 511 :=
  BitVec.toNat_inj.symm

/-- Short of 512 conversions no buffer is completed, so `put_index` stays. -/
theorem capture_putIndex {ds : List Word} {s : State} (h : s.fillOffset = 0) (hlen : ds.length < 512) :
    (capture ds s).putIndex = s.putIndex := by
  induction ds using List.reverseRecOn with
  | nil => rfl
  | append_singleton ds d ih =>
    rw [List.length_append, List.length_singleton] at hlen
    have hlast : (capture ds s).fillOffset ≠ 511#9 := by
      rw [Ne, fillOffset_last_iff, capture_fillOffset ds h]
      omega
    rw [capture_concat, produce_record]
    simp only [quiet_fillOffset, hlast, if_false, quiet_putIndex]
    exact ih (by omega)

/-- Up to the 512th a conversion is stored behind those before it (R162). -/
theorem capture_concat_pool {ds : List Word} (d : Word) {s : State} (h : s.fillOffset = 0)
    (hlen : ds.length < 512) :
    (capture (ds ++ [d]) s).pool =
      (capture ds s).pool.write (0x8000 + 512 * s.putIndex.toNat + ds.length) (sampleOf s.cfg.adcW d) := by
  rw [capture_concat, produce_pool, quiet_putIndex, quiet_fillOffset, capture_putIndex h hlen,
    capture_fillOffset ds h, Nat.mod_eq_of_lt hlen, quiet_cfg, capture_cfg]
  rfl

theorem capture_pool_read {ds : List Word} {s : State} (h : s.fillOffset = 0) (hlen : ds.length ≤ 512) :
    (∀ (i : Nat) (d : Word), ds[i]? = some d →
      (capture ds s).pool.read (0x8000 + 512 * s.putIndex.toNat + i) = some (sampleOf s.cfg.adcW d)) ∧
    ∀ a, (∀ i < ds.length, a ≠ 0x8000 + 512 * s.putIndex.toNat + i) →
      (capture ds s).pool.read a = s.pool.read a := by
  induction ds using List.reverseRecOn with
  | nil => exact ⟨fun i d hd => by simp at hd, fun a _ => rfl⟩
  | append_singleton ds d ih =>
    rw [List.length_append, List.length_singleton] at hlen
    obtain ⟨ihsamples, ihframe⟩ := ih (by omega)
    rw [capture_concat_pool d h hlen]
    refine ⟨fun i e he => ?_, fun a ha => ?_⟩
    · obtain hi | ⟨rfl, rfl⟩ : ds[i]? = some e ∨ i = ds.length ∧ e = d := by
        rw [List.getElem?_append] at he
        grind
      · have hlt := (List.getElem?_eq_some_iff.mp hi).1
        rw [memory_read_write_other _ _ _ _ (by omega), ihsamples i e hi]
      · exact memory_read_write_same _ _ _
    · rw [List.length_append, List.length_singleton] at ha
      rw [memory_read_write_other _ _ _ _ (ha ds.length (by omega)), ihframe a fun i hi => ha i (by omega)]

/-- Settles O32: each conversion stores behind those before it. -/
theorem capturedSamplesFillTheBuffer : Obligations.CapturedSamplesFillTheBuffer := by
  unfold Obligations.CapturedSamplesFillTheBuffer
  intro ds s hcap hfill hlen
  exact ⟨_, runOps_capture ds hcap, capture_pool_read hfill hlen⟩

/-- The peak after one more of up to 512 conversions (R163, R164). -/
theorem capture_concat_peak {ds : List Word} (d : Word) {s : State} (h : s.fillOffset = 0)
    (hlen : ds.length < 512) :
    (capture (ds ++ [d]) s).peak.toNat =
      if ds.length = 511 then 0 else max (capture ds s).peak.toNat (sampleOf s.cfg.adcW d).toNat := by
  have hlast : (capture ds s).fillOffset = 511#9 ↔ ds.length = 511 := by
    rw [fillOffset_last_iff, capture_fillOffset ds h, Nat.mod_eq_of_lt hlen]
  rw [capture_concat, produce_record]
  simp only [quiet_fillOffset, quiet_peak, quiet_cfg, hlast, capture_cfg]
  split
  · rfl
  · split <;> omega

/-- Settles O33, by induction on the conversions; the 512th completes the buffer. -/
theorem peakIsMaximumOfTheFill : Obligations.PeakIsMaximumOfTheFill := by
  unfold Obligations.PeakIsMaximumOfTheFill
  intro ds s hcap hfill hpeak hlen
  refine ⟨_, runOps_capture ds hcap, ?_⟩
  induction ds using List.reverseRecOn with
  | nil => simp [hpeak]
  | append_singleton ds d ih =>
    rw [List.length_append, List.length_singleton] at hlen ⊢
    rw [capture_concat_peak d hfill hlen, ih (by omega), if_neg (show ds.length ≠ 512 by omega),
      List.map_append, List.foldl_append]
    simp

/-! ### The counters of a completion, as numbers (`42_audio_pipeline` R167, R168) -/

theorem index_toNat_add_one {x : BitVec 8} {n : Nat} (h : x.toNat < n - 1) (hn : n ≤ 64) :
    (x + 1).toNat = x.toNat + 1 := by
  bv_omega

/-- `put_index` goes round the `n` buffers. -/
theorem nextPut_toNat {put : BitVec 8} {n : Nat} (h : put.toNat < n) (hn : n ≤ 64) :
    (if put.toNat < n - 1 then put + 1 else 0).toNat = (put.toNat + 1) % n := by
  split
  next hroom => rw [index_toNat_add_one hroom hn, Nat.mod_eq_of_lt (by omega)]
  next hlast =>
    rw [show put.toNat + 1 = n by omega, Nat.mod_self]
    rfl

/-- `ready_count` goes up to the ceiling `n - 1`. -/
theorem nextReady_toNat {ready : BitVec 8} {n : Nat} (h : ready.toNat < n) (hn : n ≤ 64) :
    (if ready.toNat < n - 1 then ready + 1 else ready).toNat = min (ready.toNat + 1) (n - 1) := by
  split
  next hroom =>
    rw [index_toNat_add_one hroom hn]
    omega
  next hfull => omega

/-- The fields of `u` that an undrained capture from clean state has after `c` completions. -/
structure UndrainedAfter (c : Nat) (p : Params) (u : State) : Prop where
  /-- The parameters are those at the start. -/
  cfg : u.cfg = p
  /-- `put_index` has gone round the `N` buffers. -/
  putIndex : u.putIndex.toNat = c % p.bufCount
  /-- Up to `N - 1` buffers are ready. -/
  readyCount : u.readyCount.toNat = min c (p.bufCount - 1)
  /-- The others are overruns. -/
  overrunCount : u.overrunCount.toNat = min (c - (p.bufCount - 1)) (2 ^ 32 - 1)
  /-- Every completion but the first found the edge set. -/
  missedCount : u.missedCount.toNat = min (c - 1) (2 ^ 32 - 1)
  /-- The first completion set the edge. -/
  fpe : u.fpe = decide (1 ≤ c)

theorem UndrainedAfter.quiet {c : Nat} {p : Params} {u : State} (h : UndrainedAfter c p u) :
    UndrainedAfter c p u.quiet :=
  ⟨h.cfg, h.putIndex, h.readyCount, h.overrunCount, h.missedCount, h.fpe⟩

theorem UndrainedAfter.produce_short {c : Nat} {p : Params} {u : State} (h : UndrainedAfter c p u)
    (hfill : u.fillOffset ≠ 511#9) (d : Word) : UndrainedAfter c p (produce d u) := by
  obtain ⟨hcfg, hput, hready, hover, hmissed, hfpe⟩ := h
  rw [produce_record]
  constructor <;> simpa [hfill]

theorem UndrainedAfter.produce_last {c : Nat} {p : Params} {u : State} (h : UndrainedAfter c p u)
    (hp : p.wf) (hfill : u.fillOffset = 511#9) (d : Word) : UndrainedAfter (c + 1) p (produce d u) := by
  obtain ⟨⟨hN, hN'⟩, -⟩ := hp
  obtain ⟨hcfg, hput, hready, hover, hmissed, hfpe⟩ := h
  have hmod := Nat.mod_lt c (show 0 < p.bufCount by omega)
  rw [produce_record]
  constructor <;> simp only [hfill, hcfg, if_true]
  case putIndex => rw [nextPut_toNat (by omega) hN', hput, Nat.mod_add_mod]
  case readyCount =>
    rw [nextReady_toNat (by omega) hN']
    omega
  case overrunCount =>
    split
    · omega
    · rw [bump_toNat, hover]
      generalize 2 ^ 32 - 1 = ceiling
      omega
  case missedCount =>
    rw [hfpe]
    by_cases hc : 1 ≤ c
    · rw [if_pos (decide_eq_true hc), bump_toNat, hmissed]
      generalize 2 ^ 32 - 1 = ceiling
      omega
    · rw [if_neg (by simpa using hc)]
      omega
  case fpe => simp

theorem capture_undrained (ds : List Word) {s : State} (hwf : s.cfg.wf) (hfill : s.fillOffset = 0)
    (h : UndrainedAfter 0 s.cfg s) : UndrainedAfter (ds.length / 512) s.cfg (capture ds s) := by
  induction ds using List.reverseRecOn with
  | nil => exact h
  | append_singleton ds d ih =>
    have hlast := fillOffset_last_iff (capture ds s)
    rw [capture_fillOffset ds hfill] at hlast
    rw [capture_concat, List.length_append, List.length_singleton]
    by_cases hfull : ds.length % 512 = 511
    · rw [show (ds.length + 1) / 512 = ds.length / 512 + 1 by omega]
      exact ih.quiet.produce_last hwf (hlast.mpr hfull) d
    · rw [show (ds.length + 1) / 512 = ds.length / 512 by omega]
      exact ih.quiet.produce_short (mt hlast.mp hfull) d

/-- Settles O34, by induction on the conversions: each is short of a completion or is one. -/
theorem undrainedCaptureCounts : Obligations.UndrainedCaptureCounts := by
  unfold Obligations.UndrainedCaptureCounts
  rintro ds s c hwf hcap hfill hput hready hover hmissed hfpe rfl
  have hclean : UndrainedAfter 0 s.cfg s := by
    constructor <;> simp [hput, hready, hover, hmissed, hfpe]
  have hend := capture_undrained ds hwf hfill hclean
  exact ⟨_, runOps_capture ds hcap, capture_fillOffset ds hfill, hend.putIndex, hend.readyCount,
    hend.overrunCount, hend.missedCount, hend.fpe⟩

/-! ## The registers of the pipeline (`42_audio_pipeline` R169 to R177, `43_frame_pacing` R193 to R197) -/

/-- Settles O39: the tests of F3 and F2 in their order. -/
theorem writePipeCtrl : Obligations.WritePipeCtrl := by
  unfold Obligations.WritePipeCtrl
  refine ⟨writeAt_intro fun _ => rfl, fun w s => if_congr ?both rfl (if_congr ?tone rfl rfl)⟩
  case both => rw [Bool.and_eq_true, fieldCapEn, fieldPbEn]
  case tone => rw [Bool.and_eq_true, Bool.or_eq_true, fieldCapEn, fieldPbEn]

/-- `dec_floor0` on `ready_count`, by the test that R172 makes. -/
theorem decFloor0_ready (v : BitVec 8) : decFloor0 v = if v ≠ 0 then v - 1 else v := by
  unfold decFloor0
  by_cases h : v = 0
  · subst h; rfl
  · rw [if_pos h, if_pos (by bv_omega)]

theorem srcOn_eq_false_iff (s : State) : s.srcOn = false ↔ s.capEn = false ∧ s.pbEn = false :=
  Bool.or_eq_false_iff

/-- The state after the first two commands of `WR.PIPE_CMD` (R171). -/
def drainEdgeState (w : Word) (s : State) : State :=
  let s1 := if fieldDrain w then drain s.quiet else s.quiet
  if fieldEdgeClr w then edgeClr s1 else s1

theorem pipeCmdState_eq (w : Word) (s : State) : pipeCmdState w s =
    if fieldSessionReset w then sessionReset (drainEdgeState w s) else drainEdgeState w s := rfl

theorem drainEdgeState_record (w : Word) (s : State) : drainEdgeState w s = { s with
    readyCount := if w.getLsbD 0 = true ∧ s.readyCount ≠ 0 then s.readyCount - 1 else s.readyCount
    fpe := if w.getLsbD 1 then false else s.fpe
    out := Output.quiet } := by
  have hdrain : (if fieldDrain w then drain s.quiet else s.quiet) = { s with
      readyCount := if w.getLsbD 0 = true ∧ s.readyCount ≠ 0 then s.readyCount - 1 else s.readyCount
      out := Output.quiet } := by
    cases hbit : w.getLsbD 0 with
    | false =>
      rw [fieldDrain, hbit]
      rfl
    | true =>
      rw [fieldDrain, hbit, if_pos rfl, drain, decFloor0_ready]
      simp only [true_and]
      rfl
  rw [drainEdgeState, hdrain, fieldEdgeClr]
  cases w.getLsbD 1 <;> rfl

/-- Every field that `WR.PIPE_CMD` writes, where `clean` says that its `SESSION_RESET` is performed (R171 to
R173). -/
theorem pipeCmdState_record (w : Word) (s : State) (clean : Prop) [Decidable clean]
    (hclean : clean ↔ w.getLsbD 2 = true ∧ s.capEn = false ∧ s.pbEn = false) :
    pipeCmdState w s = { s with
      putIndex := if clean then 0 else s.putIndex
      fillOffset := if clean then 0 else s.fillOffset
      readyCount :=
        if clean then 0
        else if w.getLsbD 0 = true ∧ s.readyCount ≠ 0 then s.readyCount - 1 else s.readyCount
      overrunCount := if clean then 0 else s.overrunCount
      missedCount := if clean then 0 else s.missedCount
      peak := if clean then 0 else s.peak
      fpe := if clean then false else if w.getLsbD 1 then false else s.fpe
      pbDiv := if clean then 0 else s.pbDiv
      out := Output.quiet } := by
  have hsrc : (drainEdgeState w s).srcOn = s.srcOn := by rw [drainEdgeState_record]; rfl
  rw [← srcOn_eq_false_iff, ← hsrc] at hclean
  rw [pipeCmdState_eq, fieldSessionReset]
  by_cases h : clean
  · obtain ⟨hbit, hoff⟩ := hclean.mp h
    rw [if_pos hbit, sessionReset_source_off _ hoff, drainEdgeState_record]
    simp only [h, if_true]
  · have hkeep : (if w.getLsbD 2 then sessionReset (drainEdgeState w s) else drainEdgeState w s) =
        drainEdgeState w s := by
      split
      next hbit => exact sessionReset_source_on _ (by simpa [hbit] using mt hclean.mpr h)
      next => rfl
    rw [hkeep, drainEdgeState_record]
    simp only [h, if_false]

/-- Settles O40: the three commands in their order. -/
theorem writePipeCmd : Obligations.WritePipeCmd := by
  unfold Obligations.WritePipeCmd
  refine ⟨writeAt_intro fun _ => rfl, fun w s clean _ hclean => ?_⟩
  exact (execWrPipeCmd_eq w s).trans (congrArg _ (pipeCmdState_record w s clean hclean))

/-- `CAP_EN` and `PB_EN` in bits 0 and 1 (R170). -/
theorem pipeCtrlWord_eq (s : State) :
    pipeCtrlWord s = (if s.capEn then 1 else 0) + (if s.pbEn then 2 else 0) := by
  unfold pipeCtrlWord
  cases s.capEn <;> cases s.pbEn <;> rfl

/-- Settles O41, register by register. -/
theorem pipelineRegisterReads : Obligations.PipelineRegisterReads := by
  unfold Obligations.PipelineRegisterReads
  refine ⟨readOf_intro rfl fun s => ?ctrl, readOf_intro rfl fun _ => rfl, readOf_intro rfl fun s => ?peak,
    readOf_intro rfl fun _ => rfl, readOf_intro rfl fun _ => rfl, readOf_intro rfl fun s => ?pbDiv⟩
  case ctrl =>
    rw [← pipeCtrlWord_eq]
    rfl
  all_goals
    rw [BitVec.ofNat_toNat]
    rfl

/-- The bits of `PIPE_STAT` (R175). -/
theorem pipeStatWord_getLsbD (s : State) {i : Nat} (hi : i < 32) :
    (pipeStatWord s).getLsbD i =
      if i < 8 then s.readyCount.getLsbD i else if i < 16 then s.putIndex.getLsbD (i - 8)
      else if i < 25 then s.fillOffset.getLsbD (i - 16) else decide (i = 31) && s.fpe := by
  unfold pipeStatWord bitWord
  simp only [BitVec.getLsbD_or, BitVec.getLsbD_shiftLeft, BitVec.getLsbD_setWidth, BitVec.getLsbD_ofBool, hi,
    decide_true, Bool.true_and]
  have hready : 8 ≤ i → s.readyCount.getLsbD i = false := BitVec.getLsbD_of_ge _ i
  have hput (_ : 16 ≤ i) : s.putIndex.getLsbD (i - 8) = false := BitVec.getLsbD_of_ge _ _ (by omega)
  have hfill (_ : 25 ≤ i) : s.fillOffset.getLsbD (i - 16) = false := BitVec.getLsbD_of_ge _ _ (by omega)
  grind

/-- Settles O42, field by field of the bits. -/
theorem pipeStatFields : Obligations.PipeStatFields := by
  unfold Obligations.PipeStatFields
  refine ⟨fun data => decode_rdWord _ data, fun s => ⟨pipeStatWord s, rfl, ?ready, ?put, ?fill, ?zero, ?edge⟩⟩
  case edge => simpa using pipeStatWord_getLsbD s (i := 31) (by decide)
  all_goals
    refine BitVec.eq_of_getLsbD_eq fun i hi => ?_
    rw [BitVec.getLsbD_extractLsb', pipeStatWord_getLsbD s (by omega)]
    grind

/-! ## The buffer window (`42_audio_pipeline` R180) -/

theorem aligned_iff (a : Addr) : aligned a = true ↔ a.toNat % 4 = 0 := by
  rw [aligned, decide_eq_true_iff, ← BitVec.toNat_inj, BitVec.extractLsb'_toNat]
  simp

/-- Settles O43: the index and the offset of the address, and the four lanes of the word there. -/
theorem readBufferWindow : Obligations.ReadBufferWindow := by
  unfold Obligations.ReadBufferWindow
  rintro s b o addr hb ho halign rfl
  have hindex := bufIndex_windowAddr b o hb ho
  have hoffset := bufOffset_windowAddr b o ho
  have haddr : (BitVec.ofNat 16 (windowAddr b o)).toNat = windowAddr b o := by
    rw [BitVec.toNat_ofNat, windowAddr]
    omega
  have hword : execRdBuf (BitVec.ofNat 16 (windowAddr b o)) s =
      .next (s.answer (if b < s.cfg.bufCount then s.bufWord (windowAddr b o) else 0)) := by
    rw [execRdBuf, hindex, hoffset]
  refine ⟨fun data => ?row, fun hlt => ⟨s.bufWord (windowAddr b o), ?inside, fun i hi => ?lane⟩,
    fun hge => ?beyond⟩
  case row =>
    refine (decode_rdWord _ data).trans (decodeRd_window (Bool.and_eq_true_iff.mpr ⟨?_, ?_⟩))
    · rw [inWindow_iff]
      exact haddr.symm ▸ (windowAddr_bounds b o 64 hb ho).1
    · rw [aligned_iff]
      refine haddr.symm ▸ ?_
      rw [windowAddr]
      omega
  case inside => exact hword.trans (by rw [if_pos hlt]; rfl)
  case lane => exact bufWord_lane s (windowAddr b o) i hi
  case beyond => exact hword.trans (by rw [if_neg (Nat.not_lt.mpr hge)]; rfl)

/-! ## What an operation can do to the fields of R183 and R185 -/

/-- From `s` to `t` every field that the bookkeeping of R183 and R185 reads is unchanged. -/
structure SamePipeline (s t : State) : Prop where
  /-- The parameters are unchanged. -/
  cfg : t.cfg = s.cfg
  /-- `put_index` is unchanged. -/
  putIndex : t.putIndex = s.putIndex
  /-- `fill_offset` is unchanged. -/
  fillOffset : t.fillOffset = s.fillOffset
  /-- `ready_count` is unchanged. -/
  readyCount : t.readyCount = s.readyCount
  /-- `overrun_count` is unchanged. -/
  overrunCount : t.overrunCount = s.overrunCount

namespace SamePipeline

theorem of_next {s t u : State} (h : (.next u : Host.Outcome State Fault Refusal) = .next t)
    (hu : SamePipeline s u) : SamePipeline s t :=
  Host.Outcome.next.inj h ▸ hu

/-- An operation that tests first keeps the fields if both its branches do; a branch that faults answers no
state. -/
theorem of_ite {s t : State} {c : Prop} [Decidable c] {o p : Host.Outcome State Fault Refusal}
    (h : (if c then o else p) = .next t) (ho : o = .next t → SamePipeline s t)
    (hp : p = .next t → SamePipeline s t) : SamePipeline s t := by
  split at h
  · exact ho h
  · exact hp h

theorem of_guarded {s t u : State} {c : Prop} [Decidable c] {f : Fault}
    (h : (if c then .fault f else .next u : Host.Outcome State Fault Refusal) = .next t)
    (hu : SamePipeline s u) : SamePipeline s t :=
  of_ite h nofun fun h => of_next h hu

theorem quiet (s : State) : SamePipeline s s.quiet := ⟨rfl, rfl, rfl, rfl, rfl⟩

theorem writeCtrl (k : UnitId) (w : Word) (s : State) : SamePipeline s (writeCtrl k w s.quiet) := by
  rw [writeCtrl_eq]
  constructor <;> simp

theorem clkNext (s : State) : SamePipeline s (clkNext s) := by
  rw [clkNext_eq]
  exact ⟨rfl, rfl, rfl, rfl, rfl⟩

theorem setUnit (s : State) (k : UnitId) (u : TimerUnit) : SamePipeline s (s.quiet.setUnit k u) := by
  constructor <;> simp

theorem setMatch0 (s : State) (k : UnitId) (v : Word) : SamePipeline s (s.quiet.setMatch0 k v) := by
  constructor <;> simp

end SamePipeline

/-- What a completed operation did to the pipeline: it kept the fields and moved no bookkeeping, or it is one of
the three that move both. -/
inductive PipelineEffect (s : State) : Instr → State → Prop where
  /-- An operation outside the pipeline, a read, or a dropped conversion. -/
  | keeps {i t} : SamePipeline s t → (∀ q, queueOp i s q = q) → (∀ c, tallyOp i s c = c) →
      PipelineEffect s i t
  /-- `WR.PIPE_CMD` (R171). -/
  | command (w) : PipelineEffect s (.wrPipeCmd w) (pipeCmdState w s)
  /-- `EVT.RESET` (`70_reset_and_hazards` R255). -/
  | reset {t} : t.readyCount = 0 → PipelineEffect s .evtReset t
  /-- `EVT.ADC_DONE` of a performed conversion (R160). -/
  | convert (data) : s.capEn = true → PipelineEffect s (.evtAdcDone data) (produce data s.quiet)

/-- Everything a completed operation can have done to the pipeline. -/
theorem exec_pipelineEffect {i : Instr} {s t : State} (h : exec i s = .next t) : PipelineEffect s i t := by
  cases i with
  | wrPipeCmd w =>
    obtain rfl := Host.Outcome.next.inj h
    exact .command w
  | evtReset =>
    obtain rfl := Host.Outcome.next.inj h
    exact .reset rfl
  | evtAdcDone data =>
    cases hcap : s.capEn with
    | false =>
      obtain rfl := Host.Outcome.next.inj ((exec_evtAdcDone_off hcap data).symm.trans h)
      exact .keeps (.quiet s) (fun q => by simp [queueOp, hcap]) fun c => by simp [tallyOp, hcap]
    | true =>
      obtain rfl := Host.Outcome.next.inj ((exec_evtAdcDone_on hcap data).symm.trans h)
      exact .convert data hcap
  | evtClk => exact .keeps (.of_next h (.clkNext s)) (fun _ => rfl) fun _ => rfl
  | wrU1Ctrl w | wrU2Ctrl w | wrU4Ctrl w =>
    exact .keeps (.of_next h (.writeCtrl _ w s)) (fun _ => rfl) fun _ => rfl
  | wrU3Ctrl w => exact .keeps (.of_guarded h (.writeCtrl _ w s)) (fun _ => rfl) fun _ => rfl
  | wrU1Prescale _ | wrU2Prescale _ | wrU3Prescale _ | wrU4Prescale _ =>
    exact .keeps (.of_guarded h (.setUnit s _ _)) (fun _ => rfl) fun _ => rfl
  | wrU2Match0 _ | wrU3Match0 _ | wrU4Match0 _ =>
    exact .keeps (.of_guarded h (.setMatch0 s _ _)) (fun _ => rfl) fun _ => rfl
  | wrU3Match1 _ => exact .keeps (.of_guarded h ⟨rfl, rfl, rfl, rfl, rfl⟩) (fun _ => rfl) fun _ => rfl
  | wrPipeCtrl _ =>
    exact .keeps (.of_ite h nofun fun h => .of_guarded h ⟨rfl, rfl, rfl, rfl, rfl⟩) (fun _ => rfl) fun _ => rfl
  | wrU3Role _ =>
    exact .keeps (.of_ite h (fun h => .of_next h ⟨rfl, rfl, rfl, rfl, rfl⟩)
      fun h => .of_ite h nofun fun h => .of_guarded h ⟨rfl, rfl, rfl, rfl, rfl⟩) (fun _ => rfl) fun _ => rfl
  -- The reads and the writes without a test: one update outside the pipeline.
  | _ => exact .keeps (.of_next h ⟨rfl, rfl, rfl, rfl, rfl⟩) (fun _ => rfl) fun _ => rfl

/-! ## The queue of ready buffers (`42_audio_pipeline` R183) -/

/-- The `r` buffers before index `p` on a ring of `n`, the farthest first. -/
def ringBehind (n p r : Nat) : List Nat := (List.range r).map fun i => (p + n - r + i) % n

theorem readyBuffers_eq (s : State) :
    readyBuffers s = ringBehind s.cfg.bufCount s.putIndex.toNat s.readyCount.toNat := rfl

@[simp] theorem ringBehind_length (n p r : Nat) : (ringBehind n p r).length = r := by
  simp [ringBehind]

/-- Without its oldest the queue is one shorter. -/
theorem ringBehind_tail {n p r : Nat} (hr : r ≤ n) : (ringBehind n p r).tail = ringBehind n p (r - 1) := by
  cases r with
  | zero => rfl
  | succ r =>
    rw [ringBehind, List.range_succ_eq_map, List.map_cons, List.tail_cons, List.map_map, ringBehind]
    refine List.map_congr_left fun i _ => congrArg (· % n) ?_
    simp only [Nat.succ_eq_add_one]
    omega

/-- With the buffer just completed the queue is one longer, and ends before the next index. -/
theorem ringBehind_succ {n p r : Nat} (hp : p < n) (hr : r < n) :
    ringBehind n ((p + 1) % n) (r + 1) = ringBehind n p r ++ [p] := by
  have hnext (i : Nat) : ((p + 1) % n + n - (r + 1) + i) % n = (p + n - r + i) % n := by
    obtain hlt | heq : p + 1 < n ∨ p + 1 = n := by omega
    · rw [Nat.mod_eq_of_lt hlt]
      congr 1
      omega
    · rw [heq, Nat.mod_self, show p + n - r + i = 0 + n - (r + 1) + i + n by omega, Nat.add_mod_right]
  have hlast : (p + n - r + r) % n = p := by
    rw [show p + n - r + r = p + n by omega, Nat.add_mod_right, Nat.mod_eq_of_lt hp]
  simp only [ringBehind, hnext, List.range_succ, List.map_append, List.map_cons, List.map_nil, hlast]

theorem SamePipeline.readyBuffers {s t : State} (h : SamePipeline s t) : readyBuffers t = readyBuffers s := by
  rw [readyBuffers_eq, readyBuffers_eq, h.cfg, h.putIndex, h.readyCount]

/-- A completion appends the buffer it completes; with `N - 1` ready it drops the oldest (R167, R168). -/
theorem readyBuffers_produce {s : State} (hs : Inv s) (data : Word) :
    readyBuffers (produce data s) =
      if s.fillOffset = 511#9 then
        (if (readyBuffers s).length < s.cfg.bufCount - 1 then readyBuffers s else (readyBuffers s).tail) ++
          [s.putIndex.toNat]
      else readyBuffers s := by
  obtain ⟨⟨hN, hN'⟩, -⟩ := hs.cfgWf
  have hput := hs.putLt
  have hready := hs.readyLt
  rw [produce_record]
  by_cases hfill : s.fillOffset = 511#9
  · simp only [readyBuffers_eq, hfill, if_true, nextPut_toNat hput hN', ringBehind_length]
    split
    next hroom => rw [index_toNat_add_one hroom hN', ringBehind_succ hput hready]
    next hfull =>
      obtain ⟨r, hr⟩ : ∃ r, s.readyCount.toNat = r + 1 := ⟨s.readyCount.toNat - 1, by omega⟩
      rw [ringBehind_tail hready.le, hr, ringBehind_succ hput (by omega), Nat.add_sub_cancel]
  · simp only [readyBuffers_eq, hfill, if_false]

/-- A `DRAIN` takes one off `ready_count`, floor 0 (R172). -/
theorem drainedReady_toNat (b : Bool) (ready : BitVec 8) :
    (if b = true ∧ ready ≠ 0 then ready - 1 else ready).toNat =
      if b then ready.toNat - 1 else ready.toNat := by
  cases b with
  | false => simp
  | true =>
    simp only [true_and, if_true]
    rw [← decFloor0_ready, decFloor0_toNat]

/-- A drain takes the oldest, a performed `SESSION_RESET` empties the queue (R172, R173). -/
theorem readyBuffers_pipeCmdState {s : State} (hs : Inv s) (w : Word) :
    readyBuffers (pipeCmdState w s) = queueOp (.wrPipeCmd w) s (readyBuffers s) := by
  rw [pipeCmdState_record w s _ Iff.rfl, queueOp]
  simp only [readyBuffers_eq, ringBehind_tail hs.readyLt.le]
  split
  · rfl
  · rw [drainedReady_toNat, apply_ite (ringBehind _ _)]

/-- Settles O36, by what the operation did to the pipeline. -/
theorem readyBuffersAreTheDrainQueue : Obligations.ReadyBuffersAreTheDrainQueue := by
  unfold Obligations.ReadyBuffersAreTheDrainQueue
  intro i s t hs h
  cases exec_pipelineEffect h with
  | keeps hsame hqueue _ => rw [hqueue, hsame.readyBuffers]
  | command w => exact readyBuffers_pipeCmdState hs w
  | reset hready => rw [readyBuffers_eq, hready]; rfl
  | convert data hcap =>
    rw [readyBuffers_produce hs.quiet, queueOp]
    simp only [hcap, true_and]
    rfl

/-! ## The counting laws (`42_audio_pipeline` R185) -/

/-- The laws of R185 in a state where a run has counted `c`, the first as long as the counter of overruns is below
saturation. -/
structure CountingLaws (p : Params) (c : Tally) (u : State) : Prop where
  /-- Every completed buffer is ready, drained or overrun. -/
  completions : u.overrunCount ≠ 0xFFFFFFFF#32 →
    c.completions = u.readyCount.toNat + c.drains + u.overrunCount.toNat
  /-- `put_index` goes round the `N` buffers. -/
  putIndex : u.putIndex.toNat = c.completions % p.bufCount
  /-- A completion is 512 conversions. -/
  conversions : c.conversions = 512 * c.completions + u.fillOffset.toNat

theorem SamePipeline.countingLaws {s t : State} (h : SamePipeline s t) {p : Params} {c : Tally}
    (hs : CountingLaws p c s) : CountingLaws p c t := by
  obtain ⟨hcompletions, hput, hconversions⟩ := hs
  constructor
  · rwa [h.overrunCount, h.readyCount]
  · rwa [h.putIndex]
  · rwa [h.fillOffset]

theorem bump_toNat_of_ne {v : Word} (h : bump v ≠ 0xFFFFFFFF#32) :
    v ≠ 0xFFFFFFFF#32 ∧ (bump v).toNat = v.toNat + 1 := by
  unfold bump at h ⊢
  split at h
  next hmax => exact absurd hmax h
  next hne =>
    rw [if_neg hne]
    exact ⟨hne, by bv_omega⟩

theorem CountingLaws.command {s : State} {c : Tally} (h : CountingLaws s.cfg c s) {w : Word}
    (hw : w.getLsbD 2 = false) : CountingLaws s.cfg (tallyOp (.wrPipeCmd w) s c) (pipeCmdState w s) := by
  obtain ⟨hcompletions, hput, hconversions⟩ := h
  rw [pipeCmdState_record w s False (by rw [hw]; simp), tallyOp]
  simp only [if_false]
  by_cases hdrain : w.getLsbD 0 = true ∧ s.readyCount ≠ 0
  · rw [if_pos hdrain, if_pos hdrain]
    refine ⟨fun hover => ?_, hput, hconversions⟩
    have hready : (s.readyCount - 1).toNat + 1 = s.readyCount.toNat := by bv_omega
    have hsum := hcompletions hover
    dsimp only
    omega
  · rw [if_neg hdrain, if_neg hdrain]
    exact ⟨hcompletions, hput, hconversions⟩

theorem CountingLaws.produce_short {p : Params} {c : Tally} {s : State} (h : CountingLaws p c s)
    (hfill : s.fillOffset ≠ 511#9) (data : Word) :
    CountingLaws p { c with conversions := c.conversions + 1 } (produce data s) := by
  obtain ⟨hcompletions, hput, hconversions⟩ := h
  have hnext : (s.fillOffset + 1).toNat = s.fillOffset.toNat + 1 := by bv_omega
  rw [produce_record]
  constructor <;> simp only [hfill, if_false]
  case completions => exact hcompletions
  case putIndex => exact hput
  case conversions =>
    rw [hnext]
    omega

theorem CountingLaws.produce_last {c : Tally} {s : State} (h : CountingLaws s.cfg c s) (hs : Inv s)
    (hfill : s.fillOffset = 511#9) (data : Word) :
    CountingLaws s.cfg { c with conversions := c.conversions + 1, completions := c.completions + 1 }
      (produce data s) := by
  obtain ⟨⟨-, hN⟩, -⟩ := hs.cfgWf
  obtain ⟨hcompletions, hput, hconversions⟩ := h
  rw [produce_record]
  constructor <;> simp only [hfill, if_true]
  case completions =>
    split
    next hroom =>
      intro hbelow
      have hsum := hcompletions hbelow
      rw [index_toNat_add_one hroom hN]
      omega
    next =>
      intro hbelow
      obtain ⟨hbelow, hbump⟩ := bump_toNat_of_ne hbelow
      have hsum := hcompletions hbelow
      rw [hbump]
      omega
  case putIndex => rw [nextPut_toNat hs.putLt hN, hput, Nat.mod_add_mod]
  case conversions =>
    rw [hconversions, (fillOffset_last_iff s).mp hfill]
    rfl

theorem CountingLaws.convert {c : Tally} {s : State} (h : CountingLaws s.cfg c s) (hs : Inv s)
    (hcap : s.capEn = true) (data : Word) :
    CountingLaws s.cfg (tallyOp (.evtAdcDone data) s c) (produce data s) := by
  rw [tallyOp, if_pos hcap]
  by_cases hfill : s.fillOffset = 511#9
  · rw [if_pos hfill]
    exact h.produce_last hs hfill data
  · rw [if_neg hfill]
    exact h.produce_short hfill data

/-- The induction over a run that counts along the way: what each of its operations keeps holds at the end. -/
theorem runTally_induction {R : State → Tally → Prop} {is : List Instr}
    (hstep : ∀ i ∈ is, ∀ u v c, R u c → exec i u = .next v → R v (tallyOp i u c))
    {s t : State} {c c' : Tally} (hs : R s c) (h : runTally is s c = some (t, c')) : R t c' := by
  induction is generalizing s c with
  | nil =>
    obtain ⟨rfl, rfl⟩ := Prod.mk.inj (Option.some.inj h)
    exact hs
  | cons i is ih =>
    simp only [runTally] at h
    split at h
    next u hu =>
      exact ih (fun j hj => hstep j (List.mem_cons_of_mem i hj)) (hstep i List.mem_cons_self s u c hs hu) h
    next => cases h
    next => cases h

/-- Settles O35: clean state has the laws, and every operation of the run keeps them. -/
theorem pipelineCountingLaws : Obligations.PipelineCountingLaws := by
  unfold Obligations.PipelineCountingLaws
  intro is s t c hs hfill hput hready hover hops h hbelow
  suffices hend : Inv t ∧ t.cfg = s.cfg ∧ CountingLaws s.cfg c t by
    obtain ⟨-, -, hlaws⟩ := hend
    exact ⟨hlaws.completions hbelow, hlaws.putIndex, hlaws.conversions⟩
  refine runTally_induction (R := fun u c => Inv u ∧ u.cfg = s.cfg ∧ CountingLaws s.cfg c u) ?step
    ⟨hs, rfl, ?clean⟩ h
  case clean => constructor <;> simp [hfill, hput, hready, hover]
  case step =>
    intro i hi u v c ⟨hinv, hcfg, hlaws⟩ hv
    refine ⟨exec_keeps_inv hinv hv, (exec_cfg hv).trans hcfg, ?_⟩
    rw [← hcfg] at hlaws ⊢
    obtain ⟨hreset, hsession⟩ := hops i hi
    cases exec_pipelineEffect hv with
    | keeps hsame _ htally =>
      rw [htally]
      exact hsame.countingLaws hlaws
    | command w => exact hlaws.command hsession
    | reset => exact absurd rfl hreset
    | convert data hcap => exact ((SamePipeline.quiet u).countingLaws hlaws).convert hinv.quiet hcap data

end Sys2Proof.Machine

/-! PROOF. Frame pacing (`43_frame_pacing`): what one sample period of the playback source does to the divider, the
edge and the counter of missed frames, as numbers, and from it the cadence over any number of `CLK`s. -/

namespace Sys2Proof.Machine

open Sys2Proof

/-! ## Sample periods of the playback source (`43_frame_pacing` R192, R196) -/

/-- From `s` to `t` the three fields that a sample period of the playback source reads and writes are
unchanged. -/
structure SamePacing (s t : State) : Prop where
  /-- `pb_div` is unchanged. -/
  pbDiv : t.pbDiv = s.pbDiv
  /-- The edge is unchanged. -/
  fpe : t.fpe = s.fpe
  /-- `missed_count` is unchanged. -/
  missedCount : t.missedCount = s.missedCount

/-- The fields that `t` has `k` sample periods of the playback source after `s`, the edge not cleared between. It
was set once for every 512 on the divider. -/
structure PacedAfter (s : State) (k : Nat) (t : State) : Prop where
  /-- `pb_div` counts the sample periods modulo 512. -/
  pbDiv : t.pbDiv.toNat = (s.pbDiv.toNat + k) % 512
  /-- The edge is up if it was up or was set. -/
  fpe : t.fpe = (s.fpe || decide (1 ≤ (s.pbDiv.toNat + k) / 512))
  /-- Each set that found the edge up counts a missed frame: all but the first one that raised it. -/
  missedCount : t.missedCount.toNat =
    min (s.missedCount.toNat + ((s.pbDiv.toNat + k) / 512 - if s.fpe then 0 else 1)) (2 ^ 32 - 1)

theorem PacedAfter.zero (s : State) : PacedAfter s 0 s := by
  have hdiv : s.pbDiv.toNat / 512 = 0 := Nat.div_eq_of_lt s.pbDiv.isLt
  have hmod : s.pbDiv.toNat % 512 = s.pbDiv.toNat := Nat.mod_eq_of_lt s.pbDiv.isLt
  have hmissed : s.missedCount.toNat ≤ 2 ^ 32 - 1 := Nat.le_sub_one_of_lt s.missedCount.isLt
  constructor
  · rw [Nat.add_zero, hmod]
  · simp [hdiv]
  · rw [Nat.add_zero, hdiv, Nat.zero_sub, Nat.add_zero, Nat.min_eq_left hmissed]

section
variable {s t u : State} {k : Nat}

theorem PacedAfter.congr (h : PacedAfter s k t) (hsame : SamePacing t u) : PacedAfter s k u := by
  obtain ⟨hdiv, hfpe, hmissed⟩ := hsame
  constructor
  · rw [hdiv, h.pbDiv]
  · rw [hfpe, h.fpe]
  · rw [hmissed, h.missedCount]

/-- The divider stands at 511 before the sample periods that complete a multiple of 512. -/
theorem PacedAfter.pbDiv_last_iff (h : PacedAfter s k t) :
    t.pbDiv = 511#9 ↔ 512 ∣ s.pbDiv.toNat + k + 1 := by
  rw [← BitVec.toNat_inj, h.pbDiv, Nat.dvd_iff_mod_eq_zero, Nat.succ_mod_succ_eq_zero_iff]
  rfl

/-- A sample period that does not complete 512 moves the divider alone. -/
theorem PacedAfter.step_short (h : PacedAfter s k t) (hshort : ¬ 512 ∣ s.pbDiv.toNat + k + 1) :
    PacedAfter s (k + 1) (paceStep t) := by
  have hlast : t.pbDiv ≠ 511#9 := mt h.pbDiv_last_iff.mp hshort
  have hdiv : (s.pbDiv.toNat + (k + 1)) / 512 = (s.pbDiv.toNat + k) / 512 :=
    Nat.succ_div_of_not_dvd hshort
  obtain ⟨hpb, hfpe, hmissed⟩ := h
  rw [paceStep_eq]
  constructor <;> simp only [hlast, hdiv, if_false, false_and, decide_false, Bool.or_false]
  case pbDiv =>
    rw [BitVec.toNat_add, hpb]
    exact Nat.mod_add_mod _ _ _
  case fpe => exact hfpe
  case missedCount => exact hmissed

/-- A sample period that completes 512 sets the edge, and counts a missed frame where it finds it up (R190). -/
theorem PacedAfter.step_last (h : PacedAfter s k t) (hfull : 512 ∣ s.pbDiv.toNat + k + 1) :
    PacedAfter s (k + 1) (paceStep t) := by
  have hlast : t.pbDiv = 511#9 := h.pbDiv_last_iff.mpr hfull
  have hdiv : (s.pbDiv.toNat + (k + 1)) / 512 = (s.pbDiv.toNat + k) / 512 + 1 :=
    Nat.succ_div_of_dvd hfull
  obtain ⟨-, hfpe, hmissed⟩ := h
  rw [paceStep_eq]
  constructor <;> simp only [hlast, hdiv, if_true, true_and, decide_true, Bool.or_true]
  case pbDiv => exact (Nat.mod_eq_zero_of_dvd hfull).symm
  case fpe => simp
  case missedCount =>
    rw [hfpe, apply_ite BitVec.toNat, bump_toNat, hmissed]
    generalize 2 ^ 32 - 1 = ceiling
    cases s.fpe with
    | true =>
      simp only [Bool.true_or, if_true]
      omega
    | false =>
      simp only [Bool.false_or, decide_eq_true_iff, Bool.false_eq_true, if_false]
      split <;> omega

theorem PacedAfter.step (h : PacedAfter s k t) : PacedAfter s (k + 1) (paceStep t) := by
  by_cases hfull : 512 ∣ s.pbDiv.toNat + k + 1
  · exact h.step_last hfull
  · exact h.step_short hfull

end

/-! ## The cadence by the number of `CLK`s (`43_frame_pacing` R192, R194) -/

@[simp] theorem clkNext_pbEn (s : State) : (clkNext s).pbEn = s.pbEn := by rw [clkNext_eq]; rfl

/-- With the playback source selected and unit 3 in its sample role, a `CLK` is one pacing step where unit 3
matches, and else leaves the pacing alone. -/
theorem clkNext_samePacing {s : State} (hpb : s.pbEn = true) (htone : s.u3Tone = false) :
    SamePacing (if matchesNow s.u3Match0 s.u3 then paceStep s else s) (clkNext s) := by
  rw [clkNext_eq, paceStep_eq, hpb, htone]
  cases matchesNow s.u3Match0 s.u3 <;> constructor <;> simp [sampleEdge]

/-- After `n` `CLK`s from clear and arm of unit 3 the pacing has gone on by the sample periods that are over. -/
theorem clks_pacedAfter (n : Nat) {s : State} (hpb : s.pbEn = true) (htone : s.u3Tone = false)
    (hfresh : Fresh s.u3) :
    PacedAfter s (n / ((s.u3.prescale.toNat + 1) * (s.u3Match0.toNat + 1))) (clkNext^[n] s) := by
  induction n with
  | zero =>
    rw [Nat.zero_div]
    exact .zero s
  | succ n ih =>
    have hsame := clkNext_samePacing ((clks_keep clkNext_pbEn n s).trans hpb)
      ((clks_keep clkNext_u3Tone n s).trans htone)
    rw [clks_keep clkNext_u3Match0, (clks_u3 n hfresh).matchesNow_eq] at hsame
    rw [Function.iterate_succ_apply', Nat.succ_div]
    by_cases hperiod : (s.u3.prescale.toNat + 1) * (s.u3Match0.toNat + 1) ∣ n + 1
    · rw [if_pos (decide_eq_true (Nat.mod_eq_zero_of_dvd hperiod))] at hsame
      rw [if_pos hperiod]
      exact ih.step.congr hsame
    · rw [if_neg (by simpa [← Nat.dvd_iff_mod_eq_zero] using hperiod)] at hsame
      rw [if_neg hperiod]
      exact ih.congr hsame

/-- Settles O17: the pacing after the sample periods that `n` `CLK`s complete. -/
theorem playbackPacingCadence : Obligations.PlaybackPacingCadence := by
  unfold Obligations.PlaybackPacingCadence
  rintro n k sets s hpb htone hfresh rfl rfl
  have hend := clks_pacedAfter n hpb htone hfresh
  exact ⟨_, runOps_clks n s, hend.pbDiv, hend.fpe, hend.missedCount⟩

end Sys2Proof.Machine

/-! PROOF. The host sequences (`44_host_sequences`): what each piece of a sequence does is said once, the poll of
`wait`, the configuration of a unit, one buffer drained, each with nothing in between unless a schedule is named; the
sequences are put together from the pieces. -/

namespace Sys2Proof.Machine

open Sys2Proof

/-! ## `wait` under a schedule of events (R205) -/

/-- A completed run ends with its last operation. -/
theorem runOps_concat_next {is : List Instr} {op : Instr} {s t : State} (h : runOps (is ++ [op]) s = .next t) :
    ∃ u, runOps is s = .next u ∧ exec op u = .next t := by
  induction is generalizing s with
  | nil => exact ⟨s, rfl, (runOps_singleton op s).symm.trans h⟩
  | cons i is ih =>
    obtain ⟨v, hv, hrest⟩ := runOps_cons_next h
    obtain ⟨u, hu, hop⟩ := ih hrest
    exact ⟨u, (runOps_cons i is s v hv).trans hu, hop⟩

/-- An event never faults (`60_exceptions` R226). -/
theorem exec_event {i : Instr} (h : i.opClass = .evt) (s : State) : Completes (exec i s) := by
  cases i with
  | evtReset | evtClk | evtTick | evtAdcDone _ | evtReserved _ => exact ⟨_, rfl⟩
  | _ => cases h

theorem runOps_events {is : List Instr} (h : ∀ i ∈ is, i.opClass = .evt) (s : State) :
    Completes (runOps is s) := by
  induction is generalizing s with
  | nil => exact ⟨s, rfl⟩
  | cons i is ih =>
    obtain ⟨hi, his⟩ := List.forall_mem_cons.mp h
    obtain ⟨u, hu⟩ := exec_event hi s
    rw [runOps_cons i is s u hu]
    exact ih his u

/-- No run changes the parameters (`00_scope` R6). -/
theorem runOps_cfg {is : List Instr} {s t : State} (h : runOps is s = .next t) : t.cfg = s.cfg := by
  induction is generalizing s with
  | nil => rw [Host.Outcome.next.inj h]
  | cons i is ih =>
    obtain ⟨u, hu, hrest⟩ := runOps_cons_next h
    exact (ih hrest).trans (exec_cfg hu)

/-- The events that a schedule of `wait` may deliver. -/
def Eventful (is : List Instr) : Prop := ∀ i ∈ is, i.opClass = .evt ∧ i ≠ .evtReset

theorem Eventful.completes {is : List Instr} (h : Eventful is) (s : State) : Completes (runOps is s) :=
  runOps_events (fun i hi => (h i hi).1) s

/-- The Tick Counter of `u` has counted `n` `TICK`s since it was cleared, up to the ceiling of `p`. -/
structure TickedTo (p : Params) (n : Nat) (u : State) : Prop where
  /-- The parameters are `p`. -/
  cfg : u.cfg = p
  /-- The count saturates. -/
  tickCnt : u.tickCnt.toNat = min n p.tickMax.toNat

theorem TickedTo.tick {p : Params} {n : Nat} {u v : State} (h : TickedTo p n u)
    (hv : exec .evtTick u = .next v) : TickedTo p (n + 1) v := by
  refine ⟨(exec_cfg hv).trans h.cfg, ?_⟩
  rw [(exec_ticks hv).1, tickCntAfter_tick, satInc_toNat, h.cfg, h.tickCnt]
  split <;> omega

/-- Events count by their `TICK`s. -/
theorem TickedTo.events {p : Params} {n : Nat} {is : List Instr} {s t : State} (h : TickedTo p n s)
    (hevents : Eventful is) (hrun : runOps is s = .next t) : TickedTo p (is.count .evtTick + n) t := by
  refine runOps_tick_induction (fun n u v hu hv => hu.tick hv) ?other h hrun
  case other =>
    intro i hi htick n u v hu hv
    obtain ⟨hclass, hreset⟩ := hevents i hi
    have hclear (w : Word) : i ≠ .wrTickCnt w := by
      rintro rfl
      cases hclass
    refine ⟨(exec_cfg hv).trans hu.cfg, ?_⟩
    rw [(exec_ticks hv).1, tickCntAfter_other _ _ hreset htick hclear, hu.tickCnt]

/-- The first write of `wait` clears the Tick Counter after the events delivered before it. -/
theorem runHost_hostWait (events : List Instr) (sched : List (List Instr)) (n : Word) (q : HostSeq) (s u : State)
    (h : runOps events s = .next u) :
    runHost (events :: sched) (hostWait n q) s =
      runHost sched (.waitPoll n q) { u.quiet with tickCnt := 0 } := by
  have hclear : runOps (events ++ [.wrTickCnt 0]) s = .next { u.quiet with tickCnt := 0 } := by
    rw [runOps_append _ _ _ _ h, runOps_singleton]
    rfl
  exact runHost_cons _ _ _ _ _ _ rfl hclear

section
variable {p : Params} {m : Nat} {n : Word} {s : State}

/-- One poll of `wait`, by the number of `TICK`s delivered so far. -/
theorem TickedTo.poll (h : TickedTo p m s) {events : List Instr} (hevents : Eventful events)
    (sched : List (List Instr)) (q : HostSeq) :
    ∃ t, TickedTo p (events.count .evtTick + m) t ∧
      runHost (events :: sched) (.waitPoll n q) s =
        runHost sched
          (if n.toNat ≤ min (events.count .evtTick + m) p.tickMax.toNat then q else .waitPoll n q) t := by
  obtain ⟨u, hu⟩ := hevents.completes s
  have hcount := h.events hevents hu
  refine ⟨u.answer u.tickCnt, ⟨hcount.cfg, hcount.tickCnt⟩, ?_⟩
  rw [runHost_waitPoll events sched n q s u hu, ← hcount.tickCnt]
  rfl

/-- A wait within the ceiling is over once its `TICK`s were delivered: the last poll reads at least `n`. -/
theorem TickedTo.wait_ends (h : TickedTo p m s) {sched : List (List Instr)}
    (hsched : ∀ events ∈ sched, Eventful events) (hpolls : sched ≠ []) (hmax : n.toNat ≤ p.tickMax.toNat)
    (hticks : n.toNat ≤ sched.flatten.count .evtTick + m) :
    ∃ t, runHost sched (.waitPoll n .done) s = .next (t, .done) := by
  induction sched generalizing m s with
  | nil => exact absurd rfl hpolls
  | cons events sched ih =>
    obtain ⟨hevents, hrest⟩ := List.forall_mem_cons.mp hsched
    obtain ⟨t, ht, hpoll⟩ := h.poll (n := n) hevents sched .done
    rw [List.flatten_cons, List.count_append] at hticks
    rw [hpoll]
    split
    next => exact ⟨t, runHost_done sched t⟩
    next hshort =>
      have hmore : sched ≠ [] := by
        rintro rfl
        simp only [List.flatten_nil, List.count_nil] at hticks
        omega
      exact ih ht hrest hmore (by omega)

/-- A wait beyond the ceiling is never over: no poll reads more than the ceiling. -/
theorem TickedTo.wait_stays (h : TickedTo p m s) {sched : List (List Instr)}
    (hsched : ∀ events ∈ sched, Eventful events) (hmax : p.tickMax.toNat < n.toNat) :
    ∃ t, runHost sched (.waitPoll n .done) s = .next (t, .waitPoll n .done) := by
  induction sched generalizing m s with
  | nil => exact ⟨s, runHost_nil _ s⟩
  | cons events sched ih =>
    obtain ⟨hevents, hrest⟩ := List.forall_mem_cons.mp hsched
    obtain ⟨t, ht, hpoll⟩ := h.poll (n := n) hevents sched .done
    rw [hpoll, if_neg (by omega)]
    exact ih ht hrest

end

/-- Settles O12: after the first write the Tick Counter counts from 0, and the polls follow it. -/
theorem busyWaitEndsAfterEnoughTicks : Obligations.BusyWaitEndsAfterEnoughTicks := by
  unfold Obligations.BusyWaitEndsAfterEnoughTicks
  intro n first sched s hevents hpolls
  obtain ⟨hfirst, hsched⟩ := List.forall_mem_cons.mp hevents
  obtain ⟨u, hu⟩ := Eventful.completes hfirst s
  have hzero : TickedTo s.cfg 0 { u.quiet with tickCnt := 0 } := by
    have hcfg : u.cfg = s.cfg := runOps_cfg hu
    exact ⟨hcfg, by simp⟩
  rw [runHost_hostWait first sched n .done s u hu]
  exact ⟨fun hmax hticks => hzero.wait_ends hsched hpolls hmax hticks, hzero.wait_stays hsched⟩

/-! ## The fields of `PIPE_STAT` as the host takes them apart (`10_state` R28) -/

/-- What the host finds in the value of `PIPE_STAT`. -/
theorem pipeStatWord_fields (s : State) :
    statReady (pipeStatWord s) = s.readyCount.toNat ∧ statPut (pipeStatWord s) = s.putIndex.toNat ∧
      statFpe (pipeStatWord s) = s.fpe := by
  obtain ⟨v, hread, hready, hput, -, -, hedge⟩ := pipeStatFields.2 s
  obtain rfl : pipeStatWord s = v :=
    Option.some.inj (congrArg (fun t : State => t.out.rdata) (Host.Outcome.next.inj hread))
  exact ⟨congrArg BitVec.toNat hready, congrArg BitVec.toNat hput, hedge⟩

@[simp] theorem statReady_pipeStatWord (s : State) : statReady (pipeStatWord s) = s.readyCount.toNat :=
  (pipeStatWord_fields s).1

@[simp] theorem statPut_pipeStatWord (s : State) : statPut (pipeStatWord s) = s.putIndex.toNat :=
  (pipeStatWord_fields s).2.1

@[simp] theorem statFpe_pipeStatWord (s : State) : statFpe (pipeStatWord s) = s.fpe :=
  (pipeStatWord_fields s).2.2

theorem readyCount_toNat_eq_zero_iff (s : State) : s.readyCount.toNat = 0 ↔ s.readyCount = 0 := by
  simp [BitVec.toNat_eq]

/-- Settles O37: the head of the queue is the buffer farthest behind `put_index`. -/
theorem oldestReadyFormula : Obligations.OldestReadyFormula := by
  unfold Obligations.OldestReadyFormula
  intro s _ hready
  obtain ⟨r, hr⟩ := Nat.exists_eq_succ_of_ne_zero (mt (readyCount_toNat_eq_zero_iff s).mp hready)
  rw [readyBuffers_eq, oldestReady, statPut_pipeStatWord, statReady_pipeStatWord, hr, ringBehind,
    List.range_succ_eq_map]
  rfl

/-! ## `drain_one` and `drain_all` (R209, R210) -/

/-- Reads change nothing but what is shown (`20_memory` R67). -/
theorem runOps_reads {is : List Instr} (h : ∀ i ∈ is, i.opClass = .rd) (s : State) :
    ∃ o, runOps is s = .next { s with out := o } := by
  induction is generalizing s with
  | nil => exact ⟨s.out, rfl⟩
  | cons i is ih =>
    obtain ⟨hi, his⟩ := List.forall_mem_cons.mp h
    obtain ⟨v, hv⟩ := exec_read hi s
    rw [runOps_cons i is s _ hv]
    exact ih his (s.answer v)

theorem readBuffer_reads (b : Nat) : ∀ i ∈ readBuffer b, i.opClass = .rd := by
  simp [readBuffer, Instr.opClass]

/-- The reads of one buffer and its `DRAIN` only take one off `ready_count` (R172, R209). -/
theorem runOps_drainBuffer (bufCount : Nat) (stat : Word) (s : State) :
    runOps (drainBuffer bufCount stat) s =
      .next { s with readyCount := decFloor0 s.readyCount, out := Output.quiet } := by
  obtain ⟨o, hreads⟩ := runOps_reads (readBuffer_reads (oldestReady bufCount stat)) s
  rw [drainBuffer, runOps_append _ _ _ _ hreads, runOps_singleton]
  rfl

@[simp] theorem drainBuffer_length (bufCount : Nat) (stat : Word) : (drainBuffer bufCount stat).length = 129 := by
  simp [drainBuffer, readBuffer]

/-- What remains of a drain after its poll. -/
theorem drainPoll_after (n : Nat) (all : Bool) (s : State) :
    (HostSeq.drainPoll n all).after (pipeStatWord s) =
      if s.readyCount = 0 then .done
      else .issues (drainBuffer n (pipeStatWord s)) (if all then .drainPoll n true else .done) := by
  rw [HostSeq.after]
  simp only [statReady_pipeStatWord, readyCount_toNat_eq_zero_iff]

/-- With no buffer ready a drain is its one poll. -/
theorem runHost_drainPoll_empty (n : Nat) (all : Bool) (sched : List (List Instr)) {s : State}
    (h : s.readyCount = 0) :
    runHost ([] :: sched) (.drainPoll n all) s = .next (s.answer (pipeStatWord s), .done) := by
  rw [runHost_alone _ _ _ _ (s.answer (pipeStatWord s)) rfl rfl]
  refine (congrArg (runHost sched · _) (drainPoll_after n all s)).trans ?_
  rw [if_pos h, runHost_done]

/-- With a buffer ready a drain takes it in 130 operations, and `drain_all` polls again. -/
theorem runHost_drainPoll_ready (n : Nat) (all : Bool) (sched : List (List Instr)) {s : State}
    (h : s.readyCount ≠ 0) :
    runHost (List.replicate 130 [] ++ sched) (.drainPoll n all) s =
      runHost sched (if all then .drainPoll n true else .done)
        { s with readyCount := s.readyCount - 1, out := Output.quiet } := by
  have hbuffer := runHost_issues _ sched (if all then .drainPoll n true else .done) _ _
    (runOps_drainBuffer n (pipeStatWord s) (s.answer (pipeStatWord s)))
  rw [List.replicate_succ, List.cons_append, runHost_alone _ _ _ _ (s.answer (pipeStatWord s)) rfl rfl]
  refine (congrArg (runHost _ · _) (drainPoll_after n all s)).trans ?_
  rw [drainBuffer_length] at hbuffer
  rw [if_neg h, hbuffer, answer_readyCount, decFloor0_ready, if_pos h]
  rfl

/-- `drain_all` with nothing in between, by the number of ready buffers. -/
theorem runHost_drainAll (n r : Nat) {s : State} (h : s.readyCount.toNat = r) :
    runHost (List.replicate (130 * r + 1) []) (.drainPoll n true) s =
      .next (({ s with readyCount := 0 } : State).answer (pipeStatWord { s with readyCount := 0 }), .done) := by
  induction r generalizing s with
  | zero =>
    have hempty : s.readyCount = 0 := (readyCount_toNat_eq_zero_iff s).mp h
    rw [← hempty]
    exact runHost_drainPoll_empty n true [] hempty
  | succ r ih =>
    have hready : s.readyCount ≠ 0 := fun h0 => by simp [h0] at h
    have hless : (s.readyCount - 1).toNat = r := by bv_omega
    rw [show 130 * (r + 1) + 1 = 130 + (130 * r + 1) by omega, List.replicate_add,
      runHost_drainPoll_ready n true _ hready]
    exact ih hless

/-- What can remain of `drain_all` while it is not over: operations of a buffer, then the poll again. -/
inductive DrainAllRest (n : Nat) : HostSeq → Prop where
  /-- The poll is next. -/
  | poll : DrainAllRest n (.drainPoll n true)
  /-- An operation is next. -/
  | issue (op : Instr) {rest : HostSeq} : DrainAllRest n rest → DrainAllRest n (.issue op rest)

theorem DrainAllRest.issues {n : Nat} (ops : List Instr) : DrainAllRest n (.issues ops (.drainPoll n true)) := by
  induction ops with
  | nil => exact .poll
  | cons op ops ih => exact .issue op ih

/-- Whatever is delivered in between, `drain_all` ends by a poll that finds no buffer ready. -/
theorem DrainAllRest.readyCount {n : Nat} {q : HostSeq} (hq : DrainAllRest n q) {sched : List (List Instr)}
    {s t : State} (h : runHost sched q s = .next (t, .done)) : t.readyCount = 0 := by
  induction sched generalizing q s with
  | nil =>
    rw [runHost_nil] at h
    injection h with h
    injection h with _ h
    subst h
    cases hq
  | cons events sched ih =>
    cases hq with
    | issue op hrest =>
      simp only [runHost, HostSeq.op] at h
      split at h
      next u hu => exact ih hrest h
      all_goals cases h
    | poll =>
      simp only [runHost, HostSeq.op] at h
      split at h
      next v hv =>
        obtain ⟨u, -, hu⟩ := runOps_concat_next hv
        obtain rfl : u.answer (pipeStatWord u) = v := Host.Outcome.next.inj hu
        replace h := (congrArg (runHost sched · _) (drainPoll_after n true u)).symm.trans h
        split at h
        next hempty =>
          rw [runHost_done] at h
          injection h with h
          injection h with h
          exact h ▸ hempty
        next => exact ih (.issues _) h
      all_goals cases h

/-- Settles O38: one buffer at a time, and the poll that ends `drain_all`. -/
theorem drainOneAndDrainAllTakeReadyBuffers : Obligations.DrainOneAndDrainAllTakeReadyBuffers := by
  unfold Obligations.DrainOneAndDrainAllTakeReadyBuffers
  refine ⟨fun s => ⟨fun hempty sched => ?empty, fun hready => ?ready, ?all⟩, fun sched bufCount s t h => ?ends⟩
  case empty => exact runHost_drainPoll_empty _ false sched hempty
  case ready => exact runHost_drainPoll_ready _ false [] hready
  case all => exact runHost_drainAll _ _ rfl
  case ends => exact DrainAllRest.poll.readyCount h

end Sys2Proof.Machine

/-! PROOF. The host sequences that write the timer units, and the sessions (`44_host_sequences` R206 to R208, R211,
R213, R215): `unit_cfg` answers one record, from which `boot_config` and `tone` are put together. -/

namespace Sys2Proof.Machine

open Sys2Proof

/-! ## `unit_cfg` (R207) -/

/-- A unit cleared, with the given arming and prescaler. -/
def TimerUnit.started (en : Bool) (pre : Word) : TimerUnit := { en := en, prescale := pre, count := 0, psc := 0 }

/-- The state with unit `k` disarmed and cleared. -/
def State.cleared (s : State) (k : UnitId) : State :=
  { s.quiet.setUnit k (.started false (s.unit k).prescale) with
    clkOut := if k = .u2 then false else s.clkOut }

/-- The state with unit `k` cleared and configured, armed or not; `CLR` has taken unit 2's pin low. -/
def State.configured (s : State) (k : UnitId) (en : Bool) (pre m0 m1 : Word) (tone : Bool) : State :=
  match k with
  | .u1 => { s.quiet with u1 := .started en pre }
  | .u2 => { s.quiet with u2 := .started en pre, u2Match0 := m0, clkOut := false }
  | .u3 => { s.quiet with u3 := .started en pre, u3Match0 := m0, u3Match1 := m1, u3Tone := tone }
  | .u4 => { s.quiet with u4 := .started en pre, u4Match0 := m0, u4Match1 := m1 }

/-- `CTRL` never faults, but of unit 3 under a selected source (R130, R131; log 16). -/
theorem exec_opWrCtrl {k : UnitId} {s : State} (hsrc : k = .u3 → s.srcOn = false) (w : Word) :
    exec (opWrCtrl k w) s = .next (writeCtrl k w s.quiet) := by
  cases k with
  | u1 | u2 | u4 => rfl
  | u3 =>
    change execWrU3Ctrl w s = _
    rw [execWrU3Ctrl, hsrc rfl]
    rfl

/-- `CTRL` with neither bit disarms. -/
theorem writeCtrl_zero (k : UnitId) (s : State) : writeCtrl k 0 s = s.setUnit k { s.unit k with en := false } := by
  rw [writeCtrl, if_neg (by decide)]
  rfl

/-- `CTRL` with `CLR` alone disarms and clears. -/
theorem writeCtrl_clr (k : UnitId) (s : State) : writeCtrl k valClr s =
    (clearUnit k s).setUnit k (.started false (s.unit k).prescale) := by
  rw [writeCtrl, if_pos (by decide)]
  cases k <;> rfl

/-- `CTRL` with `EN` alone arms. -/
theorem writeCtrl_en (k : UnitId) (s : State) :
    writeCtrl k valEn s = s.setUnit k { s.unit k with en := true } := by
  rw [writeCtrl, if_neg (by decide)]
  rfl

section
variable {s : State}

/-- No F1 of a disarmed unit (R132). -/
theorem exec_opWrPrescale_disarmed {k : UnitId} (hen : (s.unit k).en = false) (w : Word) :
    exec (opWrPrescale k w) s = .next (s.quiet.setUnit k { s.unit k with prescale := w }) := by
  have hwrite : writePrescale k w s = .next (s.quiet.setUnit k { s.unit k with prescale := w }) := by
    rw [writePrescale, hen]
    rfl
  cases k <;> exact hwrite

/-- No F1 of a disarmed unit (R133). -/
theorem writeMatch0_disarmed {k : UnitId} (hen : (s.unit k).en = false) (w : Word) :
    writeMatch0 k w s = .next (s.quiet.setMatch0 k w) := by
  rw [writeMatch0, hen]
  rfl

/-- No F1 of the disarmed unit 3 (R134). -/
theorem exec_wrU3Match1_disarmed (hen : s.u3.en = false) (w : Word) :
    exec (.wrU3Match1 w) s = .next { s.quiet with u3Match1 := w } := by
  change execWrU3Match1 w s = _
  rw [execWrU3Match1, hen]
  rfl

/-- With unit 3 disarmed and no source selected, both roles can be written (R136). -/
theorem exec_wrU3Role_disarmed (hen : s.u3.en = false) (hsrc : s.srcOn = false) (tone : Bool) :
    exec (.wrU3Role (if tone then valTone else 0)) s = .next { s.quiet with u3Tone := tone } := by
  have hfield : fieldTone (if tone then valTone else 0) = tone := by cases tone <;> rfl
  change execWrU3Role _ s = _
  rw [execWrU3Role, hfield, hen, hsrc, Bool.and_false]
  split
  next hsame => rw [hsame]; rfl
  next => rfl

end

section
variable {k : UnitId} {s : State} (hsrc : k = .u3 → s.srcOn = false) (pre m0 m1 : Word) (tone : Bool)
include hsrc

theorem runOps_clearUnit : runOps [opWrCtrl k 0, opWrCtrl k valClr] s = .next (s.cleared k) := by
  have hsrc' : k = .u3 → (writeCtrl k 0 s.quiet).srcOn = false := fun hk => by
    rw [writeCtrl_zero]
    simpa [State.srcOn] using hsrc hk
  rewrite [runOps_cons _ _ _ _ (exec_opWrCtrl hsrc 0), runOps_singleton, exec_opWrCtrl hsrc', writeCtrl_clr,
    writeCtrl_zero]
  cases k <;> simp only [State.cleared, clearUnit, State.setUnit, State.unit, State.quiet] <;> rfl

/-- The settings of a unit that is disarmed, so that no F1 is raised. -/
theorem runOps_unitSettings : runOps (unitSettings k pre m0 m1 tone) (s.cleared k) =
    .next (s.configured k false pre m0 m1 tone) := by
  cases k
  case' u1 => rewrite [unitSettings, runOps_cons _ _ _ _ (exec_opWrPrescale_disarmed rfl pre)]
  case' u2 =>
    rewrite [unitSettings, runOps_cons _ _ _ _ (exec_opWrPrescale_disarmed rfl pre),
      runOps_cons (.wrU2Match0 m0) _ _ _ (writeMatch0_disarmed (k := .u2) rfl m0)]
  case' u3 =>
    have hoff : (s.cleared .u3).srcOn = false := hsrc rfl
    rewrite [unitSettings, runOps_cons _ _ _ _ (exec_wrU3Role_disarmed (s := s.cleared .u3) rfl hoff tone),
      runOps_cons _ _ _ _ (exec_opWrPrescale_disarmed rfl pre),
      runOps_cons (.wrU3Match0 m0) _ _ _ (writeMatch0_disarmed (k := .u3) rfl m0),
      runOps_cons _ _ _ _ (exec_wrU3Match1_disarmed rfl m1)]
  case' u4 =>
    rewrite [unitSettings, runOps_cons _ _ _ _ (exec_opWrPrescale_disarmed rfl pre),
      runOps_cons (.wrU4Match0 m0) _ _ _ (writeMatch0_disarmed (k := .u4) rfl m0),
      runOps_cons (.wrU4Match1 m1) _ _ _ rfl]
  all_goals
    simp only [State.cleared, State.configured, State.setUnit, State.setMatch0, State.unit, State.quiet]
    rfl

theorem runOps_unitSetup : runOps (unitSetup k pre m0 m1 tone) s =
    .next (s.configured k false pre m0 m1 tone) := by
  rw [unitSetup, runOps_append _ _ _ _ (runOps_clearUnit hsrc)]
  exact runOps_unitSettings hsrc pre m0 m1 tone

theorem runOps_unitCfg : runOps (unitCfg k pre m0 m1 tone) s =
    .next (s.configured k true pre m0 m1 tone) := by
  have hsrc' : k = .u3 → (s.configured k false pre m0 m1 tone).srcOn = false := by
    rintro rfl
    exact hsrc rfl
  rw [unitCfg, runOps_append _ _ _ _ (runOps_unitSetup hsrc pre m0 m1 tone), runOps_singleton,
    exec_opWrCtrl hsrc', writeCtrl_en]
  cases k <;> rfl

end

section
variable (s : State) (k : UnitId) (en : Bool) (pre m0 m1 : Word) (tone : Bool)

@[simp] theorem configured_unit : (s.configured k en pre m0 m1 tone).unit k = .started en pre := by
  cases k <;> rfl

theorem configured_match0 (hk : k ≠ .u1) : (s.configured k en pre m0 m1 tone).match0 k = m0 := by
  cases k with
  | u1 => exact absurd rfl hk
  | u2 | u3 | u4 => rfl

theorem configured_match1 (hk : k = .u3 ∨ k = .u4) : (s.configured k en pre m0 m1 tone).match1 k = m1 := by
  obtain rfl | rfl := hk <;> rfl

theorem configured_u3Tone :
    (s.configured k en pre m0 m1 tone).u3Tone = if k = .u3 then tone else s.u3Tone := by
  cases k <;> rfl

/-- The other units keep their registers. -/
theorem configured_other {j : UnitId} (hj : j ≠ k) :
    (s.configured k en pre m0 m1 tone).unit j = s.unit j ∧
      (s.configured k en pre m0 m1 tone).match0 j = s.match0 j ∧
      (s.configured k en pre m0 m1 tone).match1 j = s.match1 j := by
  cases k <;> cases j <;> first | exact ⟨rfl, rfl, rfl⟩ | exact absurd rfl hj

end

/-- Settles O57, field by field of the configured state. -/
theorem unitCfgConfiguresTheUnit : Obligations.UnitCfgConfiguresTheUnit := by
  unfold Obligations.UnitCfgConfiguresTheUnit
  intro k pre m0 m1 tone s hsrc
  exact ⟨_, runOps_unitCfg hsrc pre m0 m1 tone, configured_unit .., fun hk => configured_match0 _ _ _ _ _ _ _ hk,
    fun hk => configured_match1 _ _ _ _ _ _ _ hk, configured_u3Tone .., fun _ hj => configured_other _ _ _ _ _ _ _ hj⟩

/-! ## `boot_config` (R206) -/

/-- The state that `boot_config` leaves. -/
def State.booted : State :=
  (((State.reset.configured .u1 true (Config.bootPrescale .u1) 0 0 false).configured .u2 false
    (Config.bootPrescale .u2) (Config.bootMatch0 .u2) 0 false).configured .u3 true
    (Config.bootPrescale .u3) (Config.bootMatch0 .u3) (Config.bootMatch1 .u3) false).configured .u4 true
    (Config.bootPrescale .u4) (Config.bootMatch0 .u4) (Config.bootMatch1 .u4) false

theorem runOps_bootConfig : runOps bootConfig State.reset = .next State.booted := by
  have hcfg {k : UnitId} {s : State} (hoff : s.srcOn = false) := runOps_unitCfg (k := k) fun _ => hoff
  have hsetup {k : UnitId} {s : State} (hoff : s.srcOn = false) := runOps_unitSetup (k := k) fun _ => hoff
  rw [bootConfig, List.append_assoc, List.append_assoc, runOps_append _ _ _ _ (hcfg rfl ..),
    runOps_append _ _ _ _ (hsetup rfl ..), runOps_append _ _ _ _ (hcfg rfl ..)]
  exact hcfg rfl ..

/-- Settles O58, unit by unit of the state that `boot_config` leaves. -/
theorem bootConfigFromReset : Obligations.BootConfigFromReset := by
  unfold Obligations.BootConfigFromReset
  refine ⟨State.booted, runOps_bootConfig, fun k => ?units, fun k hk => ?match0, fun k hk => ?match1, rfl, rfl⟩
  case units => cases k <;> rfl
  case match0 =>
    cases k with
    | u1 => exact absurd rfl hk
    | u2 | u3 | u4 => rfl
  case match1 => obtain rfl | rfl := hk <;> rfl

/-! ## `tone` (R208) -/

/-- The seven operations that configure unit 3, inside a sequence. -/
theorem runHost_unitCfgU3 {s : State} (hsrc : s.srcOn = false) (pre m0 m1 : Word) (tone : Bool)
    (sched : List (List Instr)) (q : HostSeq) :
    runHost (List.replicate 7 [] ++ sched) (.issues (unitCfg .u3 pre m0 m1 tone) q) s =
      runHost sched q (s.configured .u3 true pre m0 m1 tone) :=
  runHost_issues (unitCfg .u3 pre m0 m1 tone) sched q s _ (runOps_unitCfg (fun _ => hsrc) ..)

section
variable (top duty dur : Word) (s : State)

/-- The three reads of `tone` save unit 3's configuration. -/
theorem runHost_toneSave (sched : List (List Instr)) :
    runHost ([] :: [] :: [] :: sched) (hostTone top duty dur) s =
      runHost sched (toneRun s.u3.prescale s.u3Match0 s.u3Match1 top duty dur) (s.answer s.u3Match1) := by
  rw [hostTone, runHost_alone _ _ _ _ (s.answer s.u3.prescale) rfl rfl]
  exact (runHost_alone _ _ _ _ (s.answer s.u3Match0) rfl rfl).trans
    (runHost_alone _ _ _ _ (s.answer s.u3Match1) rfl rfl)

/-- The first ten operations of `tone`: the three reads and the takeover. -/
theorem runHost_toneTakeover (hsrc : s.srcOn = false) (sched : List (List Instr)) :
    runHost (List.replicate 10 [] ++ sched) (hostTone top duty dur) s =
      runHost sched (hostWait dur (.issues (toneRestore s.u3.prescale s.u3Match0 s.u3Match1) .done))
        (s.configured .u3 true Config.tonePre top duty true) := by
  refine (runHost_toneSave top duty dur s (List.replicate 7 [] ++ sched)).trans ?_
  exact runHost_unitCfgU3 (s := s.answer s.u3Match1) hsrc Config.tonePre top duty true sched _

end

/-- `TICK`s change nothing but the two counters and what is shown (R100). -/
theorem runOps_ticks_frame {n : Nat} {s t : State} (h : runOps (List.replicate n .evtTick) s = .next t) :
    t = { s with tickCnt := t.tickCnt, slowPoll := t.slowPoll, out := t.out } := by
  induction n generalizing s with
  | zero => rw [Host.Outcome.next.inj h]
  | succ n ih =>
    obtain ⟨u, hu, hrest⟩ := runOps_cons_next h
    obtain rfl := Host.Outcome.next.inj hu
    have hframe := ih hrest
    exact hframe

/-- With its `TICK`s, at most `TICK_MAX`, before its first poll, `wait` is over after that poll. -/
theorem runHost_waitTicks (n : Word) (q : HostSeq) (sched : List (List Instr)) {s : State}
    (hmax : n.toNat ≤ s.cfg.tickMax.toNat) :
    ∃ poll o, runHost ([] :: List.replicate n.toNat .evtTick :: sched) (hostWait n q) s =
      runHost sched q { s with tickCnt := n, slowPoll := poll, out := o } := by
  have hticks : Eventful (List.replicate n.toNat .evtTick) := fun i hi => by
    rw [List.eq_of_mem_replicate hi]
    exact ⟨rfl, nofun⟩
  have hzero : TickedTo s.cfg 0 { s.quiet with tickCnt := 0 } := ⟨rfl, by simp⟩
  obtain ⟨t, ht⟩ := hticks.completes { s.quiet with tickCnt := 0 }
  have hcount : t.tickCnt = n := by
    rw [← BitVec.toNat_inj, (hzero.events hticks ht).tickCnt, List.count_replicate_self]
    omega
  refine ⟨t.slowPoll, (t.answer t.tickCnt).out, ?_⟩
  rw [runHost_hostWait [] _ n q s s rfl, runHost_waitPoll _ sched n q _ t ht, hcount, if_pos (BitVec.le_refl n)]
  have hframe := runOps_ticks_frame ht
  rw [hcount] at hframe
  exact congrArg (fun u : State => runHost sched q (u.answer n)) hframe

/-- Settles O59: the reads, the takeover, the wait and the restore, one after another. -/
theorem toneTakesAndRestoresUnit3 : Obligations.ToneTakesAndRestoresUnit3 := by
  unfold Obligations.ToneTakesAndRestoresUnit3
  intro top duty dur s
  refine ⟨fun hen hon sched => ?fault, fun hoff => ?takeover, fun hoff hmax => ?whole⟩
  case fault =>
    rw [runHost_toneSave]
    refine runHost_alone_fault _ _ (.wrU3Ctrl 0) _ _ rfl ?_
    have htest : ((s.answer s.u3Match1).srcOn &&
        (fieldClr 0 || ((s.answer s.u3Match1).u3.en && !fieldEn 0))) = true :=
      Bool.and_eq_true_iff.mpr ⟨hon, by simp [hen, fieldEn]⟩
    exact if_pos htest
  case takeover =>
    exact (runHost_toneTakeover top duty dur s hoff []).trans (runHost_nil _ _)
  case whole =>
    have htaken := runHost_toneTakeover top duty dur s hoff
      ([] :: List.replicate dur.toNat .evtTick :: List.replicate 7 [])
    obtain ⟨poll, o, hwait⟩ := runHost_waitTicks dur
      (.issues (toneRestore s.u3.prescale s.u3Match0 s.u3Match1) .done) (List.replicate 7 [])
      (s := s.configured .u3 true Config.tonePre top duty true) hmax
    refine ⟨_, htaken.trans (hwait.trans ((runHost_unitCfgU3 ?off _ _ _ _ [] .done).trans (runHost_nil _ _))), rfl⟩
    exact hoff

/-! ## Sessions and polls (R211, R213, R215) -/

/-- The state with the pipeline fields cleared (`42_audio_pipeline` R173). -/
def State.sessionCleared (s : State) : State :=
  { s.quiet with
    putIndex := 0, fillOffset := 0, readyCount := 0, overrunCount := 0, missedCount := 0, peak := 0,
    fpe := false, pbDiv := 0 }

theorem exec_sessionReset {s : State} (hsrc : s.srcOn = false) :
    exec (.wrPipeCmd valSessionReset) s = .next s.sessionCleared :=
  congrArg Host.Outcome.next (sessionReset_source_off s.quiet hsrc)

/-- One source can be selected in the sample role (R169). -/
theorem exec_wrPipeCtrl_selects {w : Word} {s : State} (hone : (fieldCapEn w && fieldPbEn w) = false)
    (hrole : s.u3Tone = false) :
    exec (.wrPipeCtrl w) s = .next { s.quiet with capEn := fieldCapEn w, pbEn := fieldPbEn w } := by
  change execWrPipeCtrl w s = _
  rw [execWrPipeCtrl, hone, hrole, Bool.and_false]
  rfl

/-- Settles O60, sequence by sequence. -/
theorem sessionAndPollingSequences : Obligations.SessionAndPollingSequences := by
  unfold Obligations.SessionAndPollingSequences
  intro s
  refine ⟨fun hsrc hrole => ?start, ⟨rfl, rfl⟩, ?slowPoll, ?framePoll⟩
  case start =>
    obtain ⟨hcap, hpb⟩ := (srcOn_eq_false_iff s).mp hsrc
    have hselect {w : Word} (hone : (fieldCapEn w && fieldPbEn w) = false) :
        runOps [.wrPipeCmd valSessionReset, .wrPipeCtrl w] s =
          .next { s.sessionCleared with capEn := fieldCapEn w, pbEn := fieldPbEn w } := by
      rw [runOps_cons _ _ _ _ (exec_sessionReset hsrc), runOps_singleton]
      exact exec_wrPipeCtrl_selects (s := s.sessionCleared) hone hrole
    refine ⟨(hselect (w := valCapEn) rfl).trans ?_, (hselect (w := valPbEn) rfl).trans ?_⟩
    · rw [show fieldPbEn valCapEn = s.pbEn from hpb.symm]; rfl
    · rw [show fieldCapEn valPbEn = s.capEn from hcap.symm]; rfl
  case slowPoll =>
    rw [hostSlowPollCheck, runHost_alone _ _ _ _ (s.answer s.slowPoll) rfl rfl]
    change runHost [[]] (if s.slowPoll = 0 then _ else _) _ = _
    split
    next => exact runHost_alone _ _ _ _ _ rfl rfl
    next => exact runHost_done _ _
  case framePoll =>
    rw [hostFrameWait, runHost_alone _ _ _ _ (s.answer (pipeStatWord s)) rfl rfl]
    change runHost [[]] (if statFpe (pipeStatWord s) = true then _ else _) _ = _
    rw [statFpe_pipeStatWord]
    split
    next => exact runHost_alone _ _ _ _ _ rfl rfl
    next => exact runHost_done _ _

end Sys2Proof.Machine

/-! PROOF. The operations beside one another (`60_exceptions` R226 to R234, R238): where an operation faults, which
fields each context writes, and which events can be presented in either order. -/

namespace Sys2Proof.Machine

open Sys2Proof

/-! ## Where an operation faults (`60_exceptions` R226 to R229, R234) -/

/-- An outcome is the fault that was named, or a next state where none was. -/
def FaultsAs (named : Option Fault) (o : Host.Outcome State Fault Refusal) : Prop :=
  match named with
  | some f => o = .fault f
  | none => Completes o

theorem faultsAs_some (f : Fault) : FaultsAs (some f) (.fault f) := rfl

theorem faultsAs_none (t : State) : FaultsAs none (.next t) := ⟨t, rfl⟩

/-- The rules and the meaning make the same test. -/
theorem faultsAs_ite {c : Prop} [Decidable c] {a b : Option Fault} {o p : Host.Outcome State Fault Refusal}
    (ho : FaultsAs a o) (hp : FaultsAs b p) : FaultsAs (if c then a else b) (if c then o else p) := by
  split
  · exact ho
  · exact hp

/-- One test guards the operation. -/
theorem faultsAs_guard {c : Prop} [Decidable c] (f : Fault) (t : State) :
    FaultsAs (if c then some f else none) (if c then .fault f else .next t) :=
  faultsAs_ite (faultsAs_some f) (faultsAs_none t)

/-- The faults of `WR.U3_ROLE` by the tests that R136 makes: a write of the current `TONE` raises none, so the two
conditions of R227 (4) and R228 (2) are those of a change. -/
theorem faultOf_wrU3Role (w : Word) (s : State) :
    faultOf (.wrU3Role w) s =
      if w.getLsbD 8 = s.u3Tone then none
      else if s.u3.en = true then some (.reconfigWhileArmed .u3 0x14#5 w)
      else if w.getLsbD 8 = true ∧ (s.capEn = true ∨ s.pbEn = true) then
        some (.toneDuringCapture 0x0094#16 w s.capEn s.pbEn)
      else none := by
  rw [faultOf]
  by_cases hsame : w.getLsbD 8 = s.u3Tone
  · have hstay : ¬ (w.getLsbD 8 = true ∧ s.u3Tone = false ∧ (s.capEn = true ∨ s.pbEn = true)) := by
      rintro ⟨htone, hout, -⟩
      rw [hsame, hout] at htone
      exact Bool.false_ne_true htone
    rw [if_pos hsame, if_neg fun h => h.2 hsame, if_neg hstay]
  · have hchange : w.getLsbD 8 = true → s.u3Tone = false := by
      intro htone
      rw [htone] at hsame
      exact Bool.eq_false_iff.mpr (Ne.symm hsame)
    rw [if_neg hsame]
    refine if_congr (and_iff_left hsame) rfl (if_congr ?_ rfl rfl)
    exact and_congr_right fun htone => and_iff_right (hchange htone)

/-- Every operation faults as R227 to R229 and R234 name it. -/
theorem exec_faultsAs (i : Instr) (s : State) : FaultsAs (faultOf i s) (exec i s) := by
  cases i with
  | wrU1Prescale w | wrU2Prescale w | wrU3Prescale w | wrU4Prescale w
  | wrU2Match0 w | wrU3Match0 w | wrU4Match0 w | wrU3Match1 w => exact faultsAs_guard _ _
  | wrU3Ctrl w =>
    rw [writeCtrlOfUnit3.2 w s]
    exact faultsAs_guard _ _
  | wrPipeCtrl w =>
    rw [writePipeCtrl.2 w s]
    exact faultsAs_ite (faultsAs_some _) (faultsAs_guard _ _)
  | wrU3Role w =>
    obtain ⟨-, -, -, -, hrole⟩ := writeRole
    obtain ⟨-, -, -, hrole⟩ := hrole w s
    rw [hrole, faultOf_wrU3Role]
    exact faultsAs_ite (faultsAs_none _) (faultsAs_ite (faultsAs_some _) (faultsAs_guard _ _))
  -- The reads, the events, the reserved operations and the writes without a test.
  | _ => exact ⟨_, rfl⟩

/-- Settles O52, operation by operation: the tests of the rules are the tests of the meanings. -/
theorem faultsExactlyWhereStated : Obligations.FaultsExactlyWhereStated := by
  unfold Obligations.FaultsExactlyWhereStated
  exact exec_faultsAs

/-! ## Which fields each context writes (`60_exceptions` R238) -/

/-- The pipeline fields that R238 gives to the event context alone, with the count of `RESET`s. -/
structure EventFields where
  /-- `put_index`. -/
  putIndex : BitVec 8
  /-- `fill_offset`. -/
  fillOffset : BitVec 9
  /-- `peak`. -/
  peak : Byte
  /-- `overrun_count`. -/
  overrunCount : Word
  /-- `missed_count`. -/
  missedCount : Word
  /-- `pb_div`. -/
  pbDiv : BitVec 9
  /-- The buffer bytes. -/
  pool : Memory
  /-- How many `RESET`s were performed. -/
  epoch : Nat

/-- The event context's fields of a state. -/
def State.eventFields (s : State) : EventFields where
  putIndex := s.putIndex
  fillOffset := s.fillOffset
  peak := s.peak
  overrunCount := s.overrunCount
  missedCount := s.missedCount
  pbDiv := s.pbDiv
  pool := s.pool
  epoch := s.epoch

/-- The fields that R238 gives to the host context alone. -/
structure HostFields where
  /-- `cap_en`. -/
  capEn : Bool
  /-- `pb_en`. -/
  pbEn : Bool
  /-- `U3.TONE`. -/
  u3Tone : Bool
  /-- `EN` of each unit. -/
  en : UnitId → Bool
  /-- `PRESCALE` of each unit. -/
  prescale : UnitId → Word
  /-- `MATCH0` of each unit. -/
  match0 : UnitId → Word
  /-- `MATCH1` of each unit. -/
  match1 : UnitId → Word

/-- The host context's fields of a state. -/
def State.hostFields (s : State) : HostFields where
  capEn := s.capEn
  pbEn := s.pbEn
  u3Tone := s.u3Tone
  en := fun k => (s.unit k).en
  prescale := fun k => (s.unit k).prescale
  match0 := s.match0
  match1 := s.match1

/-- The next state of an outcome, if it has one, looks under `view` as `s` does. -/
def KeepsView {α : Type} (view : State → α) (s : State) (o : Host.Outcome State Fault Refusal) : Prop :=
  ∀ t, o = .next t → view t = view s

section
variable {α : Type} {view : State → α} {s : State}

theorem keepsView_next {u : State} (h : view u = view s) : KeepsView view s (.next u) := by
  rintro t ht
  obtain rfl := Host.Outcome.next.inj ht
  exact h

theorem keepsView_fault (f : Fault) : KeepsView view s (.fault f) := by
  rintro t ⟨⟩

theorem keepsView_ite {c : Prop} [Decidable c] {o p : Host.Outcome State Fault Refusal}
    (ho : KeepsView view s o) (hp : KeepsView view s p) : KeepsView view s (if c then o else p) := by
  split
  · exact ho
  · exact hp

theorem keepsView_guard {c : Prop} [Decidable c] {f : Fault} {u : State} (h : view u = view s) :
    KeepsView view s (if c then .fault f else .next u) :=
  keepsView_ite (keepsView_fault f) (keepsView_next h)

end

/-! ### Host operations -/

theorem setUnit_eventFields (s : State) (k : UnitId) (u : TimerUnit) :
    (s.setUnit k u).eventFields = s.eventFields := by
  cases k <;> rfl

theorem setMatch0_eventFields (s : State) (k : UnitId) (v : Word) :
    (s.setMatch0 k v).eventFields = s.eventFields := by
  cases k <;> rfl

theorem writeCtrl_eventFields (k : UnitId) (w : Word) (s : State) :
    (writeCtrl k w s).eventFields = s.eventFields := by
  rw [writeCtrl_eq]
  exact setUnit_eventFields s k _

/-- `DRAIN` and `EDGE_CLR` write none of the event context's fields (R172, R193). -/
theorem pipeCmdState_eventFields {w : Word} (h : w.getLsbD 2 = false) (s : State) :
    (pipeCmdState w s).eventFields = s.eventFields := by
  have hclean : False ↔ w.getLsbD 2 = true ∧ s.capEn = false ∧ s.pbEn = false :=
    ⟨False.elim, fun ⟨hbit, _⟩ => Bool.false_ne_true (h.symm.trans hbit)⟩
  rw [pipeCmdState_record w s False hclean]
  rfl

theorem exec_wr_keeps_eventFields {i : Instr} (hwr : i.opClass = .wr) (hreset : isSessionReset i = false)
    (s : State) : KeepsView State.eventFields s (exec i s) := by
  cases i with
  | wrPipeCmd w => exact keepsView_next (pipeCmdState_eventFields hreset s)
  | wrPipeCtrl w => exact keepsView_ite (keepsView_fault _) (keepsView_guard rfl)
  | wrU1Ctrl w | wrU2Ctrl w | wrU4Ctrl w => exact keepsView_next (writeCtrl_eventFields _ w s.quiet)
  | wrU3Ctrl w => exact keepsView_guard (writeCtrl_eventFields _ w s.quiet)
  | wrU1Prescale w | wrU2Prescale w | wrU3Prescale w | wrU4Prescale w =>
    exact keepsView_guard (setUnit_eventFields s.quiet _ _)
  | wrU2Match0 w | wrU3Match0 w | wrU4Match0 w => exact keepsView_guard (setMatch0_eventFields s.quiet _ w)
  | wrU3Match1 w => exact keepsView_guard rfl
  | wrU3Role w =>
    exact keepsView_ite (keepsView_next rfl) (keepsView_ite (keepsView_fault _) (keepsView_guard rfl))
  | wrTickCnt w | wrSlowPoll w | wrU1Match0 w | wrU1Match1 w | wrU1Role w | wrU2Match1 w | wrU2Role w
  | wrU4Match1 w | wrU4Role w | wrBuf a w | wrReserved a w => exact keepsView_next rfl
  | _ => cases hwr

/-- A host operation that is no `SESSION_RESET` writes no field of the event context. -/
theorem exec_host_eventFields {i : Instr} {s t : State} (h : exec i s = .next t)
    (hhost : i.opClass = .rd ∨ i.opClass = .wr) (hreset : isSessionReset i = false) :
    t.eventFields = s.eventFields := by
  rcases hhost with hrd | hwr
  · obtain ⟨v, hv⟩ := exec_read hrd s
    obtain rfl := Host.Outcome.next.inj (hv.symm.trans h)
    rfl
  · exact exec_wr_keeps_eventFields hwr hreset s t h

/-! ### Events -/

theorem runToMatch_prescale (m : Word) (u : TimerUnit) : (runToMatch m u).prescale = u.prescale := by
  unfold runToMatch
  split
  · rfl
  · split <;> rfl

/-- A `CLK` counts and acts; it configures nothing (`41_timer_units` R121). -/
theorem clkNext_hostFields (s : State) : (clkNext s).hostFields = s.hostFields := by
  have hunit (k : UnitId) : ((clkNext s).unit k).en = (s.unit k).en ∧
      ((clkNext s).unit k).prescale = (s.unit k).prescale := by
    cases k <;> simp [State.unit, runFree_eq_runToMatch, runToMatch_prescale]
  have hrest : (clkNext s).hostFields = { s.hostFields with
      en := fun k => ((clkNext s).unit k).en, prescale := fun k => ((clkNext s).unit k).prescale } := by
    rw [clkNext_eq]
    rfl
  rw [hrest, funext fun k => (hunit k).1, funext fun k => (hunit k).2]
  rfl

theorem produce_hostFields (data : Word) (s : State) : (produce data s).hostFields = s.hostFields := by
  rw [produce_record]
  rfl

/-- An event other than `RESET` writes no field that the host context alone writes. -/
theorem exec_evt_hostFields {i : Instr} {s t : State} (h : exec i s = .next t) (hevt : i.opClass = .evt)
    (hreset : i ≠ .evtReset) : t.hostFields = s.hostFields := by
  cases i with
  | evtReset => exact absurd rfl hreset
  | evtClk => exact keepsView_next (clkNext_hostFields s) t h
  | evtAdcDone data =>
    refine keepsView_next ?_ t h
    split
    · exact produce_hostFields data s.quiet
    · rfl
  | evtTick | evtReserved e =>
    obtain rfl := Host.Outcome.next.inj h
    rfl
  | _ => cases hevt

/-! ### The schedule -/

/-- No operation changes the schedule behind it: performed under its own schedule it leaves that one. -/
theorem exec_trace {i : Instr} {s t : State} (h : exec i s = .next t) : t.trace = s.trace := by
  have hself : exec i s = .next (t.withTrace s.trace) := by
    have hown := exec_withTrace i s s.trace
    rwa [h] at hown
  have heq : t = t.withTrace s.trace := Host.Outcome.next.inj (h.symm.trans hself)
  calc t.trace = (t.withTrace s.trace).trace := congrArg State.trace heq
    _ = s.trace := rfl

/-- Settles O53: the fields of either context under the other's operations, and the frame of every operation. -/
theorem fieldOwnership : Obligations.FieldOwnership := by
  unfold Obligations.FieldOwnership
  intro i s t h
  refine ⟨fun hhost hreset => ?host, fun hevt hreset => ?event, exec_cfg h, exec_trace h⟩
  case host => exact EventFields.mk.inj (exec_host_eventFields h hhost hreset)
  case event =>
    obtain ⟨hcap, hpb, htone, hen, hpre, hm0, hm1⟩ := HostFields.mk.inj (exec_evt_hostFields h hevt hreset)
    exact ⟨hcap, hpb, htone, fun k => ⟨congrFun hen k, congrFun hpre k, congrFun hm0 k, congrFun hm1 k⟩⟩

/-! ## Events in either order (`60_exceptions` R233) -/

/-- A run of two operations, one after the other. -/
theorem runOps_pair_next {i j : Instr} {s t : State} (h : runOps [i, j] s = .next t) :
    ∃ u, exec i s = .next u ∧ exec j u = .next t := by
  obtain ⟨u, hu, hrest⟩ := runOps_cons_next h
  exact ⟨u, hu, (runOps_singleton j u).symm.trans hrest⟩

/-- With no playback source a `CLK` does not pace, so it touches the units, the pin and what it shows alone. -/
theorem clkNext_eq_of_pbEn_off {s : State} (h : s.pbEn = false) :
    clkNext s = { s with
      u1 := runFree s.u1
      u2 := runToMatch s.u2Match0 s.u2
      u3 := runToMatch s.u3Match0 s.u3
      u4 := runToMatch s.u4Match0 s.u4
      clkOut := if matchesNow s.u2Match0 s.u2 then !s.clkOut else s.clkOut
      out := { rdata := none, adcTrigger := (matchesNow s.u3Match0 s.u3 && !s.u3Tone) && s.capEn } } := by
  rw [clkNext_eq, h, Bool.and_false, sampleEdge]
  simp [Output.quiet]

/-- With no playback source a conversion and a `CLK` write different fields, and neither reads one of the other's. -/
theorem produce_clkNext {s : State} (h : s.pbEn = false) (data : Word) :
    clkNext (produce data s.quiet) =
      { produce data (clkNext s).quiet with out := (clkNext (produce data s.quiet)).out } := by
  have hoff : (produce data s.quiet).pbEn = false := by
    rw [produce_record]
    exact h
  rw [clkNext_eq_of_pbEn_off hoff, clkNext_eq_of_pbEn_off h, produce_record, produce_record]
  rfl

/-- Settles O54: where a conversion is performed playback is off, so the `CLK` does not pace; a dropped conversion
only clears what was shown. -/
theorem clkAndAdcDoneCommute : Obligations.ClkAndAdcDoneCommute := by
  unfold Obligations.ClkAndAdcDoneCommute
  intro data s t t' hone hclk hadc
  obtain ⟨u, hu, ht⟩ := runOps_pair_next hclk
  obtain ⟨v, hv, ht'⟩ := runOps_pair_next hadc
  obtain rfl := Host.Outcome.next.inj hu
  obtain rfl := Host.Outcome.next.inj ht'
  change exec _ (clkNext s) = _ at ht
  cases hcap : s.capEn with
  | false =>
    obtain rfl := Host.Outcome.next.inj ((exec_evtAdcDone_off hcap data).symm.trans hv)
    have hkeep : (clkNext s).capEn = false := (clkNext_capEn s).trans hcap
    obtain rfl := Host.Outcome.next.inj ((exec_evtAdcDone_off hkeep data).symm.trans ht)
    rfl
  | true =>
    have hpb : s.pbEn = false := Bool.eq_false_iff.mpr fun hpb => hone ⟨hcap, hpb⟩
    obtain rfl := Host.Outcome.next.inj ((exec_evtAdcDone_on hcap data).symm.trans hv)
    have hkeep : (clkNext s).capEn = true := (clkNext_capEn s).trans hcap
    obtain rfl := Host.Outcome.next.inj ((exec_evtAdcDone_on hkeep data).symm.trans ht)
    exact produce_clkNext hpb data

/-- `CLK` and `ADC_DONE` see neither the counters of the Tick Service nor what was shown before. -/
theorem exec_clk_or_adcDone_withTicks {i : Instr} (hi : i = .evtClk ∨ ∃ data, i = .evtAdcDone data)
    {s t : State} (h : exec i s = .next t) (a b : Word) :
    exec i (s.quiet.withTicks a b) = .next (t.withTicks a b) := by
  rcases hi with rfl | ⟨data, rfl⟩
  · exact exec_withTicks_next (i := .evtClk) (s := s.quiet) nofun nofun h a b
  · exact exec_withTicks_next (i := .evtAdcDone data) (s := s.quiet) nofun nofun h a b

/-- `CLK` and `ADC_DONE` do not write the counters of the Tick Service. -/
theorem exec_clk_or_adcDone_ticks {i : Instr} (hi : i = .evtClk ∨ ∃ data, i = .evtAdcDone data)
    {s t : State} (h : exec i s = .next t) : t.tickCnt = s.tickCnt ∧ t.slowPoll = s.slowPoll := by
  rcases hi with rfl | ⟨data, rfl⟩ <;> exact exec_ticks h

/-- Settles O55: the event does the same to the rest of the block whatever the counters are and does not write them,
and a `TICK` writes nothing else. -/
theorem tickCommutesWithClkAndAdcDone : Obligations.TickCommutesWithClkAndAdcDone := by
  unfold Obligations.TickCommutesWithClkAndAdcDone
  intro s t t' i hi htick hevent
  obtain ⟨u, hu, ht⟩ := runOps_pair_next htick
  obtain ⟨v, hv, ht'⟩ := runOps_pair_next hevent
  obtain rfl := Host.Outcome.next.inj hu
  obtain rfl := Host.Outcome.next.inj ht'
  have hlater := exec_clk_or_adcDone_withTicks hi hv (satInc s.cfg.tickMax s.tickCnt) (decFloor0 s.slowPoll)
  obtain rfl := Host.Outcome.next.inj (hlater.symm.trans ht)
  obtain ⟨hcnt, hpoll⟩ := exec_clk_or_adcDone_ticks hi hv
  rw [exec_cfg hv, hcnt, hpoll]
  rfl

end Sys2Proof.Machine

/-! PROOF. The end of a run and `EVT.RESET` (`70_reset_and_hazards` R255, R269): a run with no operation left ends,
and a reset forgets everything but the model's own fields. -/

namespace Sys2Proof.Machine

open Sys2Proof

/-- Settles O2: `step` looks at the trace first. -/
theorem emptyTraceEndsRun : Obligations.EmptyTraceEndsRun := by
  unfold Obligations.EmptyTraceEndsRun
  exact step_nil

/-- The reset state with the parameters and the schedule of `s`, and one more reset counted (logs 1, 4, 5). -/
def State.afterReset (s : State) : State :=
  { State.reset with cfg := s.cfg, trace := s.trace, epoch := s.epoch + 1 }

/-- `EVT.RESET` answers the reset state whatever the registers, the pool and the units held: no field of the block
is left out of its list of updates (R255). -/
theorem exec_evtReset (s : State) : exec .evtReset s = .next s.afterReset := rfl

/-- Settles O46: what is read and shown after the reset depends on none of the fields that were kept, so it is what
O47 says of the reset state. -/
theorem resetEvent : Obligations.ResetEvent := by
  unfold Obligations.ResetEvent
  refine ⟨fun data => decode_evtWord _ data, fun s => ⟨s.afterReset, exec_evtReset s, rfl, ?_⟩⟩
  obtain ⟨-, hpool, -, ⟨-, -, hpulse⟩, hclk, htone, hbl, hedge, hready⟩ := resetState
  exact ⟨hpool, hclk, htone, hbl, hedge, hready, hpulse⟩

end Sys2Proof.Machine
